-- ==== Sys2Proof/Word.lean ====
section
/-! DEFINITION. The two word widths of the machine (00_scope.md R4 XLEN8, XLEN16; R5). -/

namespace Sys2Proof

/-- A byte: an 8-bit register, a memory cell or an operand byte (R4 XLEN8, R5). -/
abbrev Byte := BitVec 8

/-- A 16-bit word: SP, PC, an address, or a register pair (R4 XLEN16, R5). -/
abbrev Word := BitVec 16

end Sys2Proof
end

