-- ==== Sys2Proof/Machine/Bits.lean ====
section
/-! DEFINITION. Bit fields, byte order and sign extension (00_scope.md R5, R6; 20_memory.md R51). -/

namespace Sys2Proof.Machine

/-- `hi(w) = w[15:8]` (R5). -/
def hiByte (w : Word) : Byte := w.extractLsb' 8 8

/-- `lo(w) = w[7:0]` (R5). -/
def loByte (w : Word) : Byte := w.extractLsb' 0 8

/-- `word(h, l) = (h << 8) | l` (R5). -/
def word (h l : Byte) : Word := (h.setWidth 16 <<< 8) ||| l.setWidth 16

/-- `zext_16(e)` (R6). -/
def zext16 (e : Byte) : Word := e.setWidth 16

/-- `sext_16(e)`: `e` if `e < 0x80`, else `e + 0xFF00` (R6). -/
def sext16 (e : Byte) : Word :=
  if e.toNat < 0x80 then e.setWidth 16 else e.setWidth 16 + 0xFF00

/-- One bit as a number, for the carry inputs of R161 and R162. -/
def bitVal (b : Bool) : Nat := if b then 1 else 0

/-- The mask `m` if the bit is one, else zero. -/
def maskIf (b : Bool) (m : Byte) : Byte := if b then m else 0

/-- The byte `1 << b` at 8 bits (R232, R234). -/
def bitMask (b : Nat) : Byte := 1#8 <<< b

end Sys2Proof.Machine
end

