-- ==== Sys2Proof/Config.lean ====
section
/-! DEFINITION. The machine's parameters (00_scope.md R4): configuration, fixed for the life of a machine.
The step is a function of the state alone, so the state carries these parameters as immutable plain data
(notes/assumptions/1.md). No rule of the spec draws a free value (R8), so there is no opaque constant here.
The recommended values stand in Machine/ResetValues.lean. -/

namespace Sys2Proof

/-- A sparse byte store: (address, byte) pairs; what an unlisted address reads as is
`Memory.unlisted` of Machine/Memory.lean. One type serves the memory-space array, the external RAM, and the
two images that are parameters. -/
abbrev Memory := List Host.Cell

/-- `CART.kind`, the cartridge controller variant (R4, R69). -/
inductive CartKind where
  | none
  | mbc1
  | mbc3
  | mbc5
  deriving DecidableEq, Repr

/-- `TIMA_PERIOD[0..3]`: machine cycles per TIMA increment, indexed by TAC[1:0] (R4, R288). -/
structure TimaPeriods where
  p0 : Nat
  p1 : Nat
  p2 : Nat
  p3 : Nat
  deriving DecidableEq, Repr

/-- One entry of the parameter `CYCLES` (R4, R310): the opcode key of R103 (the first byte, or
`0xCB00 + op2`), and the machine cycles when taken and when not taken. -/
structure CycleEntry where
  key : Nat
  taken : Nat
  notTaken : Nat
  deriving DecidableEq, Repr

/-- The parameters of R4. `cycles` lists the opcodes whose `CYCLES` value differs from the default table of
R310 (Machine/Timing.lean); an opcode without an entry has its default. -/
structure Params where
  bios           : Memory
  skipBios       : Bool
  cartKind       : CartKind
  rom            : Memory
  romBanks       : Nat
  ramBanks       : Nat
  ramSize        : Nat
  extRamInit     : Memory
  lyPeriod       : Nat
  cycles         : List CycleEntry
  dispatchCycles : Nat
  eiDelay        : Fin 2
  divPeriod      : Nat
  timaPeriod     : TimaPeriods
  postBiosIo     : Memory
  deriving DecidableEq, Repr

end Sys2Proof
end

