-- ==== Sys2Proof/Machine/Memory.lean ====
section
/-! DEFINITION. Reading and writing a sparse byte store, and its one canonical form: addresses strictly
rising, and no entry equal to what an unlisted address reads as, so that equal contents are equal data. -/

namespace Sys2Proof

/-- What an address with no entry reads as: 0x00, the reset value the spec gives every cell of `mem`
(10_state.md R31, R46) and the default of EXTRAM_INIT (93_implementation_defined.md U13). (notes/assumptions/6.md.) -/
def Memory.unlisted : Byte := 0x00

/-- The byte at address `a`. -/
def Memory.get (m : Memory) (a : Nat) : Byte :=
  match m with
  | [] => Memory.unlisted
  | c :: rest => if c.1 = a then c.2 else Memory.get rest a

/-- `m` with every entry for `a` taken out. -/
def Memory.erase (m : Memory) (a : Nat) : Memory :=
  List.filter (fun c => c.1 != a) m

/-- `m` with the entry `(a, v)` put in its place in the rising order. -/
def Memory.insert (m : Memory) (a : Nat) (v : Byte) : Memory :=
  match m with
  | [] => [(a, v)]
  | c :: rest =>
    if a < c.1 then (a, v) :: c :: rest
    else if a = c.1 then (a, v) :: rest
    else c :: Memory.insert rest a v

/-- Write `v` at `a`. Writing what an unlisted address reads as removes the entry. -/
def Memory.set (m : Memory) (a : Nat) (v : Byte) : Memory :=
  if v = Memory.unlisted then Memory.erase m a else Memory.insert m a v

/-- The canonical form. -/
abbrev Memory.wf (m : Memory) : Prop :=
  List.Pairwise (fun c d => c.1 < d.1) m ∧ ∀ c ∈ m, c.2 ≠ Memory.unlisted

end Sys2Proof
end

