-- ==== Sys2Proof/WellFormed.lean ====
section
/-! DEFINITION. Well-formed instructions and well-formed parameters. -/

namespace Sys2Proof

/-- The eleven first bytes that select no instruction (30_encoding.md R117). -/
def undefinedOpcodes : List Byte :=
  [0xD3, 0xDB, 0xDD, 0xE3, 0xE4, 0xEB, 0xEC, 0xED, 0xF4, 0xFC, 0xFD]

/-- An instruction is well-formed when it is one the encoding has: every immediate of R111 takes all the values
of its width, and `illegal` carries one of the eleven undefined bytes of R117. -/
def Instr.wellFormed : Instr → Bool
  | .illegal op => undefinedOpcodes.contains op
  | _ => true

/-- The addresses that are cells of `mem`: outside ROM and outside the external-RAM window (10_state.md R31). -/
def isMemCell (a : Nat) : Bool :=
  (0x8000 ≤ a && a < 0xA000) || (0xC000 ≤ a && a ≤ 0xFFFF)

/-- The preconditions on the parameters (00_scope.md R4; 93_implementation_defined.md U11, U20): the images
have their declared lengths, at least two ROM banks, no more external RAM than its banks hold, none for
`CART.kind = None` (20_memory.md R70), positive periods, and POST_BIOS_IO fills only cells of `mem`, leaves
VBK zero (R64) and keeps LY at most 153 (U20). (notes/assumptions/12.md, 18.md.) -/
abbrev Params.wf (p : Params) : Prop :=
  (Memory.wf p.bios ∧ ∀ c ∈ p.bios, c.1 < 0x100) ∧
  (Memory.wf p.rom ∧ ∀ c ∈ p.rom, c.1 < p.romBanks * 0x4000) ∧
  2 ≤ p.romBanks ∧
  p.ramSize ≤ p.ramBanks * 0x2000 ∧
  (p.cartKind = .none → p.ramBanks = 0) ∧
  (Memory.wf p.extRamInit ∧ ∀ c ∈ p.extRamInit, c.1 < p.ramSize) ∧
  0 < p.lyPeriod ∧ 0 < p.divPeriod ∧
  (0 < p.timaPeriod.p0 ∧ 0 < p.timaPeriod.p1 ∧ 0 < p.timaPeriod.p2 ∧ 0 < p.timaPeriod.p3) ∧
  (∀ c ∈ p.postBiosIo, isMemCell c.1 = true ∧ c.1 ≠ 0xFF4F ∧ (c.1 = 0xFF44 → c.2.toNat ≤ 153))

end Sys2Proof
end

