-- ==== Sys2Proof/Machine/ResetValues.lean ====
section
/-! DEFINITION. The reset values of 10_state.md R46 that depend on a parameter, and the recommended parameter
values of 00_scope.md R4. -/

namespace Sys2Proof.Machine

/-- The register file after a skipped BIOS, else zero (R46; B, C, D, E, H, L by decision D14). -/
def resetReg (skipBios : Bool) (r : Reg8) : Byte :=
  if skipBios then
    match r with
    | .A => 0x01
    | .B => 0x00
    | .C => 0x13
    | .D => 0x00
    | .E => 0xD8
    | .H => 0x01
    | .L => 0x4D
  else 0x00

/-- `F` at reset: Z = 1, N = 0, H = 1, C = 1 after a skipped BIOS (R46). -/
def resetF (skipBios : Bool) : Byte := if skipBios then 0xB0 else 0x00

/-- `SP` at reset (R46). -/
def resetSp (skipBios : Bool) : Word := if skipBios then 0xFFFE else 0x0000

/-- `PC` at reset: the BIOS entry or the cartridge entry (R46, 70_reset_and_hazards.md R301). -/
def resetPc (skipBios : Bool) : Word := if skipBios then 0x0100 else 0x0000

/-- `mem` at reset: all zero, then POST_BIOS_IO when the BIOS is skipped (R46, D13). -/
def resetMem (p : Params) : Memory :=
  if p.skipBios then List.foldl (fun m c => Memory.set m c.1 c.2) [] p.postBiosIo else []

/-- The parameters the machine of `State.reset` has: every default of R4, and for the arguments without a
default the machine of 95_test_vectors.md (SKIP_BIOS, `None`, two ROM banks, an all-zero image); see
notes/assumptions/2.md. -/
def standardParams : Params where
  bios := []
  skipBios := true
  cartKind := .none
  rom := []
  romBanks := 2
  ramBanks := 0
  ramSize := 0
  extRamInit := []
  lyPeriod := 114
  cycles := []
  dispatchCycles := 5
  eiDelay := 1
  divPeriod := 64
  timaPeriod := { p0 := 256, p1 := 4, p2 := 16, p3 := 64 }
  postBiosIo := []

end Sys2Proof.Machine
end

