-- ==== Sys2Proof/Machine/State.lean ====
section
/-! DEFINITION. The machine state (10_state.md): every component of the state tuple, as plain data, and its
reset value (R46). The named I/O registers (IE, IF, LY, STAT, LCDC, DIV, TIMA, TMA, TAC, P1) are bytes of `mem`
(R47); Machine/Operands.lean names them. -/

namespace Sys2Proof.Machine

/-- The machine's fault record (10_state.md R29, 60_exceptions.md R271): the kind with its payload. Once it is in
the state the machine has no step (R272). -/
inductive Fault where
  /-- Raised by an undefined first byte `byte` fetched from `addr` (R117, R271). Safe: the spec stops here too. -/
  | unimplementedOpcode (addr : Word) (byte : Byte)
  /-- Raised by any read through `MemRead` of SB, SC, DMA, KEY1 or SVBK at `addr` (20_memory.md R56, R271).
  Safe: the spec stops here too. -/
  | unsupportedRegister (addr : Word)
  /-- Raised by nothing: an address is 16 bits (R59, R271). Kept as the spec's third fault kind. Safe.
  (DEDUCED, notes/assumptions/15.md.) -/
  | addressOutOfRange (addr : Nat)
  deriving DecidableEq, Repr

/-- Why there is no step although the machine has not faulted. -/
inductive Refusal where
  /-- An instruction without a meaning in this model: no arm of `exec` answers it. Safe. -/
  | notModelled (mnemonic : String)
  /-- After STOP the CORE has no step until a host keypad move or reset (46_system.md R257, R270, R297). Raised by
  `step` in a stopped state. Safe: the spec has no step here. (DESIGN CHOICE, notes/assumptions/5.md.) -/
  | waitingForHost
  deriving DecidableEq, Repr

/-- The bank-controller registers (R34). -/
structure Mbc where
  bankLo     : Byte
  bankHi     : BitVec 2
  mode       : BitVec 1
  ramBankReg : Byte
  gateOpen   : Bool
  deriving DecidableEq, Repr

/-- The complete machine state: the tuple at the head of 10_state.md, and the parameters of R4, which no step
changes. -/
structure State where
  a           : Byte
  b           : Byte
  c           : Byte
  d           : Byte
  e           : Byte
  h           : Byte
  l           : Byte
  f           : Byte
  sp          : Word
  pc          : Word
  ime         : Bool
  eiCountdown : Nat
  halted      : Bool
  stopped     : Bool
  fault       : Option Fault
  m           : Nat
  mem         : Memory
  inBios      : Bool
  mbc         : Mbc
  extRam      : Memory
  lyCounter   : Nat
  divCounter  : Nat
  timaCounter : Nat
  vramDirty   : Bool
  lcdcDirty   : Bool
  vblankEvent : Bool
  params      : Params
  deriving DecidableEq, Repr

/-- The state right after reset with the parameters `p`, both variants of R46. -/
def State.resetOf (p : Params) : State where
  a := resetReg p.skipBios .A
  b := resetReg p.skipBios .B
  c := resetReg p.skipBios .C
  d := resetReg p.skipBios .D
  e := resetReg p.skipBios .E
  h := resetReg p.skipBios .H
  l := resetReg p.skipBios .L
  f := resetF p.skipBios
  sp := resetSp p.skipBios
  pc := resetPc p.skipBios
  ime := false
  eiCountdown := 0
  halted := false
  stopped := false
  fault := none
  m := 0
  mem := resetMem p
  inBios := !p.skipBios
  mbc := { bankLo := 1, bankHi := 0, mode := 0, ramBankReg := 0, gateOpen := false }
  extRam := p.extRamInit
  lyCounter := 0
  divCounter := 0
  timaCounter := 0
  vramDirty := false
  lcdcDirty := false
  vblankEvent := false
  params := p

/-- The machine right after reset, with the parameters of `standardParams`. -/
def State.reset : State := State.resetOf standardParams

end Sys2Proof.Machine
end

