-- ==== Sys2Proof/Machine/Flags.lean ====
section
/-! DEFINITION. The flags byte and every flag computation of the spec (10_state.md R22; 42_alu8.md R160 to R162,
R176 to R195; 43_alu16.md R200, R203; 44_rotate_shift_bit.md R208, R209). -/

namespace Sys2Proof.Machine

/-! ### The flags byte (R22) -/

/-- `F.Z = F[7]`. -/
def State.flagZ (s : State) : Bool := s.f.getLsbD 7
/-- `F.N = F[6]`. -/
def State.flagN (s : State) : Bool := s.f.getLsbD 6
/-- `F.H = F[5]`. -/
def State.flagH (s : State) : Bool := s.f.getLsbD 5
/-- `F.C = F[4]`. -/
def State.flagC (s : State) : Bool := s.f.getLsbD 4

/-- The flags byte `f` with its four flags replaced; bits 3..0 stay (they are zero in every reachable state;
notes/assumptions/7.md). -/
def flagsByte (f : Byte) (z n h c : Bool) : Byte :=
  (f &&& 0x0F) ||| maskIf z 0x80 ||| maskIf n 0x40 ||| maskIf h 0x20 ||| maskIf c 0x10

/-- Write the four flags. An instruction that leaves a flag unchanged passes its old value. -/
def State.setFlags (s : State) (z n h c : Bool) : State :=
  { s with f := flagsByte s.f z n h c }

/-! ### 8-bit arithmetic and logic (R160 to R162, R176 to R184) -/

/-- The result byte of an 8-bit operation and the flags it gives. -/
structure AluOut where
  res : Byte
  z : Bool
  n : Bool
  h : Bool
  c : Bool
  deriving DecidableEq, Repr

/-- `Add8(a, b, cin)` (R161). -/
def add8 (a b : Byte) (cin : Bool) : AluOut :=
  let sum := a.toNat + b.toNat + bitVal cin
  let res := BitVec.ofNat 8 sum
  { res := res
    z := res == 0
    n := false
    h := decide (a.toNat % 16 + b.toNat % 16 + bitVal cin > 0x0F)
    c := decide (sum > 0xFF) }

/-- `Sub8(a, b, cin)` (R162). -/
def sub8 (a b : Byte) (cin : Bool) : AluOut :=
  let diff : Int := (a.toNat : Int) - b.toNat - bitVal cin
  let res := BitVec.ofInt 8 diff
  { res := res
    z := res == 0
    n := true
    h := decide (((a.toNat % 16 : Nat) : Int) - (b.toNat % 16 : Nat) - bitVal cin < 0)
    c := decide (diff < 0) }

/-- AND: N = 0, H = 1, C = 0 (R176). -/
def and8 (a b : Byte) : AluOut :=
  let res := a &&& b
  { res := res, z := res == 0, n := false, h := true, c := false }

/-- XOR: N = H = C = 0 (R179). -/
def xor8 (a b : Byte) : AluOut :=
  let res := a ^^^ b
  { res := res, z := res == 0, n := false, h := false, c := false }

/-- OR: N = H = C = 0 (R182). -/
def or8 (a b : Byte) : AluOut :=
  let res := a ||| b
  { res := res, z := res == 0, n := false, h := false, c := false }

/-- The eight accumulator operations of R108 on `A`, the operand `v` and the old carry (R163). The `res` of `cp`
is the difference; CP does not store it (R185). -/
def aluOut (op : AluOp) (a v : Byte) (carry : Bool) : AluOut :=
  match op with
  | .add => add8 a v false
  | .adc => add8 a v carry
  | .sub => sub8 a v false
  | .sbc => sub8 a v carry
  | .and => and8 a v
  | .xor => xor8 a v
  | .or => or8 a v
  | .cp => sub8 a v false

/-- 8-bit INC: Z, N = 0, H = carry out of bit 3, C as it was (R188). -/
def inc8 (v : Byte) (carry : Bool) : AluOut :=
  let res := v + 1
  { res := res, z := res == 0, n := false, h := decide (v.toNat % 16 = 0xF), c := carry }

/-- 8-bit DEC: Z, N = 1, H = borrow from bit 4, C as it was (R190). -/
def dec8 (v : Byte) (carry : Bool) : AluOut :=
  let res := v - 1
  { res := res, z := res == 0, n := true, h := decide (v.toNat % 16 = 0x0), c := carry }

/-- DAA on `a` with the flags `n`, `h`, `c` (R192): both tests use the pre-adjustment value; N is unchanged and
H is cleared. -/
def daa8 (a : Byte) (n h c : Bool) : AluOut :=
  if n = false then
    let low := h || decide (a.toNat % 16 > 9)
    let high := c || decide (a.toNat > 0x99)
    let res := a + maskIf low 0x06 + maskIf high 0x60
    { res := res, z := res == 0, n := n, h := false, c := high }
  else
    let res := a - (maskIf h 0x06 + maskIf c 0x60)
    { res := res, z := res == 0, n := n, h := false, c := c }

/-! ### 16-bit arithmetic (R156, R200, R203) -/

/-- `ADD HL,rr`: H is the carry out of bit 11 (R200). -/
def addPairHalf (a b : Word) : Bool := decide (a.toNat % 0x1000 + b.toNat % 0x1000 > 0x0FFF)

/-- `ADD HL,rr`: C is the carry out of bit 15 (R200). -/
def addPairCarry (a b : Word) : Bool := decide (a.toNat + b.toNat > 0xFFFF)

/-- `SP + e`: H is the carry out of bit 3, `e` taken as the raw byte (R156, R203). -/
def spOffsetHalf (sp : Word) (e : Byte) : Bool := decide (sp.toNat % 16 + e.toNat % 16 > 0x0F)

/-- `SP + e`: C is the carry out of bit 7, `e` taken as the raw byte (R156, R203). -/
def spOffsetCarry (sp : Word) (e : Byte) : Bool := decide (sp.toNat % 256 + e.toNat > 0xFF)

/-! ### Rotates and shifts (R208) -/

/-- The result byte and the new carry of each operation of R208, from the byte `v` and the old carry. -/
def rotOut (op : RotOp) (v : Byte) (carry : Bool) : Byte × Bool :=
  match op with
  | .rlc => (v <<< 1 ||| maskIf (v.getLsbD 7) 0x01, v.getLsbD 7)
  | .rrc => (v >>> 1 ||| maskIf (v.getLsbD 0) 0x80, v.getLsbD 0)
  | .rl => (v <<< 1 ||| maskIf carry 0x01, v.getLsbD 7)
  | .rr => (v >>> 1 ||| maskIf carry 0x80, v.getLsbD 0)
  | .sla => (v <<< 1, v.getLsbD 7)
  | .sra => (v >>> 1 ||| (v &&& 0x80), v.getLsbD 0)
  | .swap => (((v <<< 4) &&& 0xF0) ||| (v >>> 4), false)
  | .srl => (v >>> 1, v.getLsbD 0)

end Sys2Proof.Machine
end

