-- ==== Sys2Proof/Machine/Operands.lean ====
section
/-! DEFINITION. Registers, register pairs, conditions, and the memory-mapped registers by name (10_state.md R20,
R21, R36 to R44, R47; 30_encoding.md R104 to R107). -/

namespace Sys2Proof.Machine

/-! ### 8-bit registers (R20, R104) -/

/-- `x[i]` for a register operand. -/
def State.reg (s : State) (r : Reg8) : Byte :=
  match r with
  | .A => s.a
  | .B => s.b
  | .C => s.c
  | .D => s.d
  | .E => s.e
  | .H => s.h
  | .L => s.l

/-- `x[i] <- v` for a register operand. -/
def State.setReg (s : State) (r : Reg8) (v : Byte) : State :=
  match r with
  | .A => { s with a := v }
  | .B => { s with b := v }
  | .C => { s with c := v }
  | .D => { s with d := v }
  | .E => { s with e := v }
  | .H => { s with h := v }
  | .L => { s with l := v }

/-! ### Pairs (R21, R105, R106) -/

/-- `BC = word(B, C)`. -/
def State.bc (s : State) : Word := word s.b s.c
/-- `DE = word(D, E)`. -/
def State.de (s : State) : Word := word s.d s.e
/-- `HL = word(H, L)`. -/
def State.hl (s : State) : Word := word s.h s.l
/-- `AF = word(A, F)`. -/
def State.af (s : State) : Word := word s.a s.f

/-- `HL <- w`. -/
def State.setHl (s : State) (w : Word) : State := { s with h := hiByte w, l := loByte w }

/-- `rr[p]`. -/
def State.pair (s : State) (p : Pair) : Word :=
  match p with
  | .BC => s.bc
  | .DE => s.de
  | .HL => s.hl
  | .SP => s.sp

/-- `rr[p] <- w`. -/
def State.setPair (s : State) (p : Pair) (w : Word) : State :=
  match p with
  | .BC => { s with b := hiByte w, c := loByte w }
  | .DE => { s with d := hiByte w, e := loByte w }
  | .HL => { s with h := hiByte w, l := loByte w }
  | .SP => { s with sp := w }

/-- `qq[p]`. -/
def State.stackPair (s : State) (q : StackPair) : Word :=
  match q with
  | .BC => s.bc
  | .DE => s.de
  | .HL => s.hl
  | .AF => s.af

/-- `qq[p] <- w`: for AF the low nibble of the flags byte is dropped (R21, R155). -/
def State.setStackPair (s : State) (q : StackPair) (w : Word) : State :=
  match q with
  | .BC => { s with b := hiByte w, c := loByte w }
  | .DE => { s with d := hiByte w, e := loByte w }
  | .HL => { s with h := hiByte w, l := loByte w }
  | .AF => { s with a := hiByte w, f := loByte w &&& 0xF0 }

/-! ### Conditions (R107, R240) -/

/-- `cond(cc)` (R240). -/
def State.cond (s : State) (cc : Cond) : Bool :=
  match cc with
  | .nz => !s.flagZ
  | .z => s.flagZ
  | .nc => !s.flagC
  | .c => s.flagC

/-! ### Addresses of the memory-mapped registers (R47) -/

/-- P1 (R42). -/
def p1Addr : Nat := 0xFF00
/-- SB, unsupported (R43). -/
def sbAddr : Nat := 0xFF01
/-- SC, unsupported (R43). -/
def scAddr : Nat := 0xFF02
/-- DIV (R41). -/
def divAddr : Nat := 0xFF04
/-- TIMA (R41). -/
def timaAddr : Nat := 0xFF05
/-- TMA (R41). -/
def tmaAddr : Nat := 0xFF06
/-- TAC (R41). -/
def tacAddr : Nat := 0xFF07
/-- IF (R37). -/
def ifAddr : Nat := 0xFF0F
/-- LCDC (R40). -/
def lcdcAddr : Nat := 0xFF40
/-- STAT (R39). -/
def statAddr : Nat := 0xFF41
/-- LY (R38). -/
def lyAddr : Nat := 0xFF44
/-- DMA, unsupported (R43). -/
def dmaAddr : Nat := 0xFF46
/-- KEY1, unsupported (R43). -/
def key1Addr : Nat := 0xFF4D
/-- VBK (R43). -/
def vbkAddr : Nat := 0xFF4F
/-- SVBK, unsupported (R43). -/
def svbkAddr : Nat := 0xFF70
/-- IE (R36). -/
def ieAddr : Nat := 0xFFFF

/-- The five registers whose read is a fault (20_memory.md R55, R56). -/
def unsupportedAddrs : List Nat := [sbAddr, scAddr, dmaAddr, key1Addr, svbkAddr]

/-! ### The memory-mapped registers, read and written directly as cells of `mem` -/

/-- The byte of the memory-space array at `a` (R31). -/
def State.cell (s : State) (a : Nat) : Byte := Memory.get s.mem a

/-- Write a byte of the memory-space array. -/
def State.setCell (s : State) (a : Nat) (v : Byte) : State := { s with mem := Memory.set s.mem a v }

/-- `IE` (R36). -/
def State.ie (s : State) : Byte := s.cell ieAddr
/-- `IF` (R37). -/
def State.iflag (s : State) : Byte := s.cell ifAddr
/-- `LY` (R38). -/
def State.ly (s : State) : Byte := s.cell lyAddr
/-- `DIV` (R41). -/
def State.div (s : State) : Byte := s.cell divAddr
/-- `TIMA` (R41). -/
def State.tima (s : State) : Byte := s.cell timaAddr
/-- `TMA` (R41). -/
def State.tma (s : State) : Byte := s.cell tmaAddr
/-- `TAC` (R41). -/
def State.tac (s : State) : Byte := s.cell tacAddr
/-- `P1` (R42). -/
def State.p1 (s : State) : Byte := s.cell p1Addr
/-- `STAT` (R39). -/
def State.stat (s : State) : Byte := s.cell statAddr
/-- `LCDC` (R40). -/
def State.lcdc (s : State) : Byte := s.cell lcdcAddr

end Sys2Proof.Machine
end

