-- ==== Sys2Proof/Machine/Ops.lean ====
section
/-! DEFINITION. The operations the instructions share: raising a fault, taking the interrupt and the BIOS
handoff, the MMU's read and write dispatch with the bank controllers (20_memory.md), the stack, and the reading
forms that carry a fault outward. -/

namespace Sys2Proof.Machine

/-- The outcome of a meaning or a step. -/
abbrev Result := Host.Outcome State Fault Refusal

/-! ### Raising a fault (00_scope.md R7, 60_exceptions.md R272, R273) -/

/-- `raise K(info)`: enter the sticky faulted state; every write made before stands. -/
def State.raise (s : State) (r : Fault) : State := { s with fault := some r }

/-! ### Banking (20_memory.md R69 to R77) -/

/-- The ROM bank the registers request (R72). -/
def State.requestedRomBank (s : State) : Nat :=
  match s.params.cartKind with
  | .none => 1
  | .mbc1 =>
    if s.mbc.mode = 0 then (s.mbc.bankHi.toNat <<< 5) ||| s.mbc.bankLo.toNat else s.mbc.bankLo.toNat
  | .mbc3 => s.mbc.bankLo.toNat
  | .mbc5 => s.mbc.bankLo.toNat

/-- `EffRomBank` (R72). -/
def State.effRomBank (s : State) : Nat := max 1 (s.requestedRomBank % s.params.romBanks)

/-- The external-RAM bank the registers request (R73). `None` has no external RAM (R70), so its value is never
used (notes/assumptions/8.md). -/
def State.requestedRamBank (s : State) : Nat :=
  match s.params.cartKind with
  | .none => 0
  | .mbc1 => if s.mbc.mode = 1 then s.mbc.bankHi.toNat else 0
  | .mbc3 => s.mbc.ramBankReg.toNat
  | .mbc5 => s.mbc.ramBankReg.toNat

/-- `EffRamBank` (R73). -/
def State.effRamBank (s : State) : Nat := s.requestedRamBank % s.params.ramBanks

/-- `off` of R74 and R75: the offset in external RAM of an address of the window, and none where the window
answers 0xFF and drops writes (gate closed, no RAM, or beyond the declared size). -/
def State.extRamOffset (s : State) (a : Nat) : Option Nat :=
  if s.mbc.gateOpen = false ∨ s.params.ramBanks = 0 then none
  else
    let off := s.effRamBank * 0x2000 + (a - 0xA000)
    if off < s.params.ramSize then some off else none

/-- `MbcControl(addr, v)`: a write to 0x0000..0x7FFF goes to the active controller; where it defines no register
the write is dropped (R61, R70, R71, R76, R77). -/
def State.mbcControl (s : State) (a : Nat) (v : Byte) : State :=
  match s.params.cartKind with
  | .none => s
  | .mbc1 =>
    if a < 0x2000 then { s with mbc := { s.mbc with gateOpen := v == 0x0A } }
    else if a < 0x4000 then { s with mbc := { s.mbc with bankLo := v &&& 0x1F } }
    else if a < 0x6000 then { s with mbc := { s.mbc with bankHi := v.setWidth 2 } }
    else { s with mbc := { s.mbc with mode := v.setWidth 1 } }
  | .mbc3 =>
    if a < 0x2000 then { s with mbc := { s.mbc with gateOpen := v == 0x0A } }
    else if a < 0x4000 then { s with mbc := { s.mbc with bankLo := v } }
    else if a < 0x6000 then { s with mbc := { s.mbc with ramBankReg := v } }
    else s
  | .mbc5 =>
    if a < 0x2000 then { s with mbc := { s.mbc with gateOpen := v == 0x0A } }
    else if a < 0x4000 then { s with mbc := { s.mbc with bankLo := v } }
    else if a < 0x6000 then { s with mbc := { s.mbc with ramBankReg := v } }
    else s

/-! ### Read dispatch (20_memory.md R55 to R58, R74) -/

/-- The index in `CART.rom` that a ROM address shows (R58). -/
def State.romIndex (s : State) (a : Nat) : Nat :=
  if a < 0x4000 then a else s.effRomBank * 0x4000 + (a - 0x4000)

/-- `RomRead(addr)` (R58). -/
def State.romRead (s : State) (a : Nat) : Byte := Memory.get s.params.rom (s.romIndex a)

/-- `ExtRamRead(addr)` (R74). -/
def State.extRamRead (s : State) (a : Nat) : Byte :=
  match s.extRamOffset a with
  | some off => Memory.get s.extRam off
  | none => 0xFF

/-- `MemRead(addr, 1)`: the dispatch of R55. A read changes no state. -/
def State.memRead (s : State) (addr : Word) : Except Fault Byte :=
  let a := addr.toNat
  if unsupportedAddrs.contains a then .error (.unsupportedRegister addr)
  else if a ≤ 0x7FFF then
    if s.inBios = true ∧ a < 0x0100 then .ok (Memory.get s.params.bios a) else .ok (s.romRead a)
  else if 0xA000 ≤ a ∧ a ≤ 0xBFFF then .ok (s.extRamRead a)
  else .ok (s.cell a)

/-! ### Write dispatch (20_memory.md R60 to R68, R75) -/

/-- `ExtRamWrite(addr, v)` (R75). -/
def State.extRamWrite (s : State) (a : Nat) (v : Byte) : State :=
  match s.extRamOffset a with
  | some off => { s with extRam := Memory.set s.extRam off v }
  | none => s

/-- Step 7 of R60: a plain byte, with the two dirty flags of R44. -/
def State.plainWrite (s : State) (a : Nat) (v : Byte) : State :=
  { s with
    mem := Memory.set s.mem a v
    lcdcDirty := s.lcdcDirty || a == lcdcAddr
    vramDirty := s.vramDirty || (decide (0x8000 ≤ a) && decide (a ≤ 0x9FFF)) }

/-- `MemWrite(addr, 1, v)`: the dispatch of R60, in its order. No write faults. -/
def State.memWrite (s : State) (addr : Word) (v : Byte) : State :=
  let a := addr.toNat
  if a ≤ 0x7FFF then s.mbcControl a v
  else if 0xA000 ≤ a ∧ a ≤ 0xBFFF then s.extRamWrite a v
  else if a = statAddr then s.setCell statAddr (v ||| 0x80)
  else if a = vbkAddr then s
  else if a = lyAddr then s
  else if a = divAddr then { s with mem := Memory.set s.mem divAddr 0, divCounter := 0 }
  else s.plainWrite a v

/-- `MemWrite(addr, 2, w)`: low byte first, second address mod 65536 (R52). -/
def State.memWrite16 (s : State) (addr : Word) (w : Word) : State :=
  (s.memWrite addr (loByte w)).memWrite (addr + 1) (hiByte w)

/-! ### The stack (41_load16.md R150) -/

/-- `Push16(w)`: high byte first, SP decremented before each write. -/
def State.push16 (s : State) (w : Word) : State :=
  let s1 := { s with sp := s.sp - 1 }
  let s2 := s1.memWrite s1.sp (hiByte w)
  let s3 := { s2 with sp := s2.sp - 1 }
  s3.memWrite s3.sp (loByte w)

/-! ### Reading forms: what an instruction does after a read that may fault -/

/-- Read one byte and go on with it; a fault ends the instruction there (R273). -/
def withRead (s : State) (addr : Word) (k : Byte → Result) : Result :=
  match s.memRead addr with
  | .ok v => k v
  | .error r => .next (s.raise r)

/-- `Pop16()`, then go on with the popped word in the state that has SP advanced. When the second read faults, SP
has been advanced by one (R150, R273). -/
def withPop (s : State) (k : Word → State → Result) : Result :=
  withRead s s.sp fun lo =>
    let s1 := { s with sp := s.sp + 1 }
    withRead s1 s1.sp fun hi =>
      k (word hi lo) { s1 with sp := s1.sp + 1 }

/-! ### The trap entry and the return from it (60_exceptions.md R277, R281, R283; 45_control.md R250) -/

/-- `VBLANK_VECTOR` (R4). -/
def vblankVector : Word := 0x0040

/-- `VBLANK_MASK` (R4). -/
def vblankMask : Byte := 0x01

/-- The condition of R277: the master enable, an enabled and requested vertical blank, and no BIOS. -/
def State.dispatchable (s : State) : Bool :=
  s.ime && ((s.ie &&& s.iflag &&& vblankMask) != 0) && !s.inBios

/-- `Dispatch()`, taking the vertical-blank interrupt (R281). -/
def State.dispatch (s : State) : State :=
  let s1 := { s with
    ime := false
    eiCountdown := 0
    mem := Memory.set s.mem ifAddr (s.iflag &&& 0xFE) }
  { s1.push16 s1.pc with pc := vblankVector }

/-- The return from the interrupt handler (R250, R283): PC from the stack, dispatch enabled at once. -/
def returnFromInterrupt (s : State) : Result :=
  withPop s fun w t => .next { t with pc := w, ime := true, eiCountdown := 0 }

/-! ### The BIOS handoff (60_exceptions.md R275) -/

/-- `Handoff()`: the BIOS overlay ends, LY and IE are reset. -/
def State.handoff (s : State) : State :=
  { s with
    inBios := false
    mem := Memory.set (Memory.set s.mem lyAddr 0) ieAddr 0 }

end Sys2Proof.Machine
end

