-- ==== Sys2Proof/Machine/Load16.lean ====
section
/-! DEFINITION. 16-bit loads and the stack instructions (41_load16.md R150 to R156). -/

namespace Sys2Proof.Machine

/-! ### The shared forms -/

/-- `rr[p] <- nn` (R151). -/
def loadPairImm (p : Pair) (nn : Word) (s : State) : Result := .next (s.setPair p nn)

/-- `Push16(qq[p])` (R154). -/
def pushPair (q : StackPair) (s : State) : Result := .next (s.push16 (s.stackPair q))

/-- `qq[p] <- Pop16()` (R155). -/
def popPair (q : StackPair) (s : State) : Result :=
  withPop s fun w t => .next (t.setStackPair q w)

/-- `SP + sext_16(e)` with the flags of the signed-stack-pointer-offset instructions: Z = N = 0, H from bit 3, C
from bit 7 (R156, R203). -/
def State.setSpOffsetFlags (s : State) (e : Byte) : State :=
  s.setFlags false false (spOffsetHalf s.sp e) (spOffsetCarry s.sp e)

/-! ### One meaning per instruction -/

/-- `LD BC,nn` (R151). -/
def execLd_BC_nn (nn : Word) (s : State) : Result := loadPairImm .BC nn s

/-- `LD (nn),SP` (R152). -/
def execLd_mnn_SP (nn : Word) (s : State) : Result := .next (s.memWrite16 nn s.sp)

/-- `LD DE,nn` (R151). -/
def execLd_DE_nn (nn : Word) (s : State) : Result := loadPairImm .DE nn s

/-- `LD HL,nn` (R151). -/
def execLd_HL_nn (nn : Word) (s : State) : Result := loadPairImm .HL nn s

/-- `LD SP,nn` (R151). -/
def execLd_SP_nn (nn : Word) (s : State) : Result := loadPairImm .SP nn s

/-- `POP BC` (R155). -/
def execPop_BC (s : State) : Result := popPair .BC s

/-- `PUSH BC` (R154). -/
def execPush_BC (s : State) : Result := pushPair .BC s

/-- `POP DE` (R155). -/
def execPop_DE (s : State) : Result := popPair .DE s

/-- `PUSH DE` (R154). -/
def execPush_DE (s : State) : Result := pushPair .DE s

/-- `POP HL` (R155). -/
def execPop_HL (s : State) : Result := popPair .HL s

/-- `PUSH HL` (R154). -/
def execPush_HL (s : State) : Result := pushPair .HL s

/-- `POP AF` (R155). -/
def execPop_AF (s : State) : Result := popPair .AF s

/-- `PUSH AF` (R154). -/
def execPush_AF (s : State) : Result := pushPair .AF s

/-- `LD HL,SP+e` (R156). -/
def execLd_HL_SPe (e : Byte) (s : State) : Result := .next ((s.setSpOffsetFlags e).setHl (s.sp + sext16 e))

/-- `LD SP,HL` (R153). -/
def execLd_SP_HL (s : State) : Result := .next { s with sp := s.hl }

end Sys2Proof.Machine
end

