-- ==== Sys2Proof/Machine/Alu16.lean ====
section
/-! DEFINITION. 16-bit arithmetic (43_alu16.md R200 to R203). -/

namespace Sys2Proof.Machine

/-! ### The shared forms -/

/-- `ADD HL,rr`: Z unchanged, N = 0, H from bit 11, C from bit 15 (R200). -/
def addHlPair (p : Pair) (s : State) : Result :=
  let x := s.hl
  let y := s.pair p
  .next ((s.setFlags s.flagZ false (addPairHalf x y) (addPairCarry x y)).setHl (x + y))

/-- `INC rr`: no flag (R201). -/
def incPair (p : Pair) (s : State) : Result := .next (s.setPair p (s.pair p + 1))

/-- `DEC rr`: no flag (R202). -/
def decPair (p : Pair) (s : State) : Result := .next (s.setPair p (s.pair p - 1))

/-! ### One meaning per instruction -/

/-- `INC BC` (R201). -/
def execInc_BC (s : State) : Result := incPair .BC s

/-- `ADD HL,BC` (R200). -/
def execAdd_HL_BC (s : State) : Result := addHlPair .BC s

/-- `DEC BC` (R202). -/
def execDec_BC (s : State) : Result := decPair .BC s

/-- `INC DE` (R201). -/
def execInc_DE (s : State) : Result := incPair .DE s

/-- `ADD HL,DE` (R200). -/
def execAdd_HL_DE (s : State) : Result := addHlPair .DE s

/-- `DEC DE` (R202). -/
def execDec_DE (s : State) : Result := decPair .DE s

/-- `INC HL` (R201). -/
def execInc_HL (s : State) : Result := incPair .HL s

/-- `ADD HL,HL` (R200). -/
def execAdd_HL_HL (s : State) : Result := addHlPair .HL s

/-- `DEC HL` (R202). -/
def execDec_HL (s : State) : Result := decPair .HL s

/-- `INC SP` (R201). -/
def execInc_SP (s : State) : Result := incPair .SP s

/-- `ADD HL,SP` (R200). -/
def execAdd_HL_SP (s : State) : Result := addHlPair .SP s

/-- `DEC SP` (R202). -/
def execDec_SP (s : State) : Result := decPair .SP s

/-- `ADD SP,e` (R203). -/
def execAdd_SP_e (e : Byte) (s : State) : Result := .next { s.setSpOffsetFlags e with sp := s.sp + sext16 e }

end Sys2Proof.Machine
end

