-- ==== Sys2Proof/Machine/Alu8.lean ====
section
/-! DEFINITION. 8-bit arithmetic and logic (42_alu8.md R160 to R195). -/

namespace Sys2Proof.Machine

/-! ### The shared forms -/

/-- `A op v`: the flags by R160 to R162, and A unless the operation is CP (R163, R185). -/
def State.applyAlu (s : State) (op : AluOp) (v : Byte) : State :=
  let out := aluOut op s.a v s.flagC
  let s1 := s.setFlags out.z out.n out.h out.c
  match op with
  | .cp => s1
  | _ => s1.setReg .A out.res

/-- `op A,r` (R163). -/
def aluReg (op : AluOp) (r : Reg8) (s : State) : Result := .next (s.applyAlu op (s.reg r))

/-- `op A,(HL)` (R163): on a fault A and F are unchanged. -/
def aluMem (op : AluOp) (s : State) : Result :=
  withRead s s.hl fun v => .next (s.applyAlu op v)

/-- `op A,n` (R163). -/
def aluImm (op : AluOp) (n : Byte) (s : State) : Result := .next (s.applyAlu op n)

/-- The flags of an `AluOut`. -/
def State.setOutFlags (s : State) (out : AluOut) : State := s.setFlags out.z out.n out.h out.c

/-- `INC r` (R188). -/
def incReg (r : Reg8) (s : State) : Result :=
  let out := inc8 (s.reg r) s.flagC
  .next ((s.setReg r out.res).setOutFlags out)

/-- `DEC r` (R190). -/
def decReg (r : Reg8) (s : State) : Result :=
  let out := dec8 (s.reg r) s.flagC
  .next ((s.setReg r out.res).setOutFlags out)

/-- `INC (HL)` and `DEC (HL)`: read, write the result, flags from the value computed (R189, R191). -/
def modifyMem (f : Byte → AluOut) (s : State) : Result :=
  withRead s s.hl fun v =>
    let out := f v
    .next ((s.memWrite s.hl out.res).setOutFlags out)

/-! ### One meaning per instruction -/

/-- `INC B` (R188). -/
def execInc_B (s : State) : Result := incReg .B s

/-- `DEC B` (R190). -/
def execDec_B (s : State) : Result := decReg .B s

/-- `INC C` (R188). -/
def execInc_C (s : State) : Result := incReg .C s

/-- `DEC C` (R190). -/
def execDec_C (s : State) : Result := decReg .C s

/-- `INC D` (R188). -/
def execInc_D (s : State) : Result := incReg .D s

/-- `DEC D` (R190). -/
def execDec_D (s : State) : Result := decReg .D s

/-- `INC E` (R188). -/
def execInc_E (s : State) : Result := incReg .E s

/-- `DEC E` (R190). -/
def execDec_E (s : State) : Result := decReg .E s

/-- `INC H` (R188). -/
def execInc_H (s : State) : Result := incReg .H s

/-- `DEC H` (R190). -/
def execDec_H (s : State) : Result := decReg .H s

/-- `DAA` (R192). -/
def execDaa (s : State) : Result :=
  let out := daa8 s.a s.flagN s.flagH s.flagC
  .next ((s.setReg .A out.res).setOutFlags out)

/-- `INC L` (R188). -/
def execInc_L (s : State) : Result := incReg .L s

/-- `DEC L` (R190). -/
def execDec_L (s : State) : Result := decReg .L s

/-- `CPL` (R193). -/
def execCpl (s : State) : Result := .next ((s.setReg .A (s.a ^^^ 0xFF)).setFlags s.flagZ true true s.flagC)

/-- `INC (HL)` (R189). -/
def execInc_mHL (s : State) : Result := modifyMem (fun v => inc8 v s.flagC) s

/-- `DEC (HL)` (R191). -/
def execDec_mHL (s : State) : Result := modifyMem (fun v => dec8 v s.flagC) s

/-- `SCF` (R194). -/
def execScf (s : State) : Result := .next (s.setFlags s.flagZ false false true)

/-- `INC A` (R188). -/
def execInc_A (s : State) : Result := incReg .A s

/-- `DEC A` (R190). -/
def execDec_A (s : State) : Result := decReg .A s

/-- `CCF` (R195). -/
def execCcf (s : State) : Result := .next (s.setFlags s.flagZ false false (!s.flagC))

/-- `ADD A,B` (R164). -/
def execAdd_A_B (s : State) : Result := aluReg .add .B s

/-- `ADD A,C` (R164). -/
def execAdd_A_C (s : State) : Result := aluReg .add .C s

/-- `ADD A,D` (R164). -/
def execAdd_A_D (s : State) : Result := aluReg .add .D s

/-- `ADD A,E` (R164). -/
def execAdd_A_E (s : State) : Result := aluReg .add .E s

/-- `ADD A,H` (R164). -/
def execAdd_A_H (s : State) : Result := aluReg .add .H s

/-- `ADD A,L` (R164). -/
def execAdd_A_L (s : State) : Result := aluReg .add .L s

/-- `ADD A,(HL)` (R165). -/
def execAdd_A_mHL (s : State) : Result := aluMem .add s

/-- `ADD A,A` (R164). -/
def execAdd_A_A (s : State) : Result := aluReg .add .A s

/-- `ADC A,B` (R167). -/
def execAdc_A_B (s : State) : Result := aluReg .adc .B s

/-- `ADC A,C` (R167). -/
def execAdc_A_C (s : State) : Result := aluReg .adc .C s

/-- `ADC A,D` (R167). -/
def execAdc_A_D (s : State) : Result := aluReg .adc .D s

/-- `ADC A,E` (R167). -/
def execAdc_A_E (s : State) : Result := aluReg .adc .E s

/-- `ADC A,H` (R167). -/
def execAdc_A_H (s : State) : Result := aluReg .adc .H s

/-- `ADC A,L` (R167). -/
def execAdc_A_L (s : State) : Result := aluReg .adc .L s

/-- `ADC A,(HL)` (R168). -/
def execAdc_A_mHL (s : State) : Result := aluMem .adc s

/-- `ADC A,A` (R167). -/
def execAdc_A_A (s : State) : Result := aluReg .adc .A s

/-- `SUB A,B` (R170). -/
def execSub_A_B (s : State) : Result := aluReg .sub .B s

/-- `SUB A,C` (R170). -/
def execSub_A_C (s : State) : Result := aluReg .sub .C s

/-- `SUB A,D` (R170). -/
def execSub_A_D (s : State) : Result := aluReg .sub .D s

/-- `SUB A,E` (R170). -/
def execSub_A_E (s : State) : Result := aluReg .sub .E s

/-- `SUB A,H` (R170). -/
def execSub_A_H (s : State) : Result := aluReg .sub .H s

/-- `SUB A,L` (R170). -/
def execSub_A_L (s : State) : Result := aluReg .sub .L s

/-- `SUB A,(HL)` (R171). -/
def execSub_A_mHL (s : State) : Result := aluMem .sub s

/-- `SUB A,A` (R170). -/
def execSub_A_A (s : State) : Result := aluReg .sub .A s

/-- `SBC A,B` (R173). -/
def execSbc_A_B (s : State) : Result := aluReg .sbc .B s

/-- `SBC A,C` (R173). -/
def execSbc_A_C (s : State) : Result := aluReg .sbc .C s

/-- `SBC A,D` (R173). -/
def execSbc_A_D (s : State) : Result := aluReg .sbc .D s

/-- `SBC A,E` (R173). -/
def execSbc_A_E (s : State) : Result := aluReg .sbc .E s

/-- `SBC A,H` (R173). -/
def execSbc_A_H (s : State) : Result := aluReg .sbc .H s

/-- `SBC A,L` (R173). -/
def execSbc_A_L (s : State) : Result := aluReg .sbc .L s

/-- `SBC A,(HL)` (R174). -/
def execSbc_A_mHL (s : State) : Result := aluMem .sbc s

/-- `SBC A,A` (R173). -/
def execSbc_A_A (s : State) : Result := aluReg .sbc .A s

/-- `AND A,B` (R176). -/
def execAnd_A_B (s : State) : Result := aluReg .and .B s

/-- `AND A,C` (R176). -/
def execAnd_A_C (s : State) : Result := aluReg .and .C s

/-- `AND A,D` (R176). -/
def execAnd_A_D (s : State) : Result := aluReg .and .D s

/-- `AND A,E` (R176). -/
def execAnd_A_E (s : State) : Result := aluReg .and .E s

/-- `AND A,H` (R176). -/
def execAnd_A_H (s : State) : Result := aluReg .and .H s

/-- `AND A,L` (R176). -/
def execAnd_A_L (s : State) : Result := aluReg .and .L s

/-- `AND A,(HL)` (R177). -/
def execAnd_A_mHL (s : State) : Result := aluMem .and s

/-- `AND A,A` (R176). -/
def execAnd_A_A (s : State) : Result := aluReg .and .A s

/-- `XOR A,B` (R179). -/
def execXor_A_B (s : State) : Result := aluReg .xor .B s

/-- `XOR A,C` (R179). -/
def execXor_A_C (s : State) : Result := aluReg .xor .C s

/-- `XOR A,D` (R179). -/
def execXor_A_D (s : State) : Result := aluReg .xor .D s

/-- `XOR A,E` (R179). -/
def execXor_A_E (s : State) : Result := aluReg .xor .E s

/-- `XOR A,H` (R179). -/
def execXor_A_H (s : State) : Result := aluReg .xor .H s

/-- `XOR A,L` (R179). -/
def execXor_A_L (s : State) : Result := aluReg .xor .L s

/-- `XOR A,(HL)` (R180). -/
def execXor_A_mHL (s : State) : Result := aluMem .xor s

/-- `XOR A,A` (R179). -/
def execXor_A_A (s : State) : Result := aluReg .xor .A s

/-- `OR A,B` (R182). -/
def execOr_A_B (s : State) : Result := aluReg .or .B s

/-- `OR A,C` (R182). -/
def execOr_A_C (s : State) : Result := aluReg .or .C s

/-- `OR A,D` (R182). -/
def execOr_A_D (s : State) : Result := aluReg .or .D s

/-- `OR A,E` (R182). -/
def execOr_A_E (s : State) : Result := aluReg .or .E s

/-- `OR A,H` (R182). -/
def execOr_A_H (s : State) : Result := aluReg .or .H s

/-- `OR A,L` (R182). -/
def execOr_A_L (s : State) : Result := aluReg .or .L s

/-- `OR A,(HL)` (R183). -/
def execOr_A_mHL (s : State) : Result := aluMem .or s

/-- `OR A,A` (R182). -/
def execOr_A_A (s : State) : Result := aluReg .or .A s

/-- `CP A,B` (R185). -/
def execCp_A_B (s : State) : Result := aluReg .cp .B s

/-- `CP A,C` (R185). -/
def execCp_A_C (s : State) : Result := aluReg .cp .C s

/-- `CP A,D` (R185). -/
def execCp_A_D (s : State) : Result := aluReg .cp .D s

/-- `CP A,E` (R185). -/
def execCp_A_E (s : State) : Result := aluReg .cp .E s

/-- `CP A,H` (R185). -/
def execCp_A_H (s : State) : Result := aluReg .cp .H s

/-- `CP A,L` (R185). -/
def execCp_A_L (s : State) : Result := aluReg .cp .L s

/-- `CP A,(HL)` (R186). -/
def execCp_A_mHL (s : State) : Result := aluMem .cp s

/-- `CP A,A` (R185). -/
def execCp_A_A (s : State) : Result := aluReg .cp .A s

/-- `ADD A,n` (R166). -/
def execAdd_A_n (n : Byte) (s : State) : Result := aluImm .add n s

/-- `ADC A,n` (R169). -/
def execAdc_A_n (n : Byte) (s : State) : Result := aluImm .adc n s

/-- `SUB A,n` (R172). -/
def execSub_A_n (n : Byte) (s : State) : Result := aluImm .sub n s

/-- `SBC A,n` (R175). -/
def execSbc_A_n (n : Byte) (s : State) : Result := aluImm .sbc n s

/-- `AND A,n` (R178). -/
def execAnd_A_n (n : Byte) (s : State) : Result := aluImm .and n s

/-- `XOR A,n` (R181). -/
def execXor_A_n (n : Byte) (s : State) : Result := aluImm .xor n s

/-- `OR A,n` (R184). -/
def execOr_A_n (n : Byte) (s : State) : Result := aluImm .or n s

/-- `CP A,n` (R187). -/
def execCp_A_n (n : Byte) (s : State) : Result := aluImm .cp n s

end Sys2Proof.Machine
end

