-- ==== Sys2Proof/Machine/BitOps.lean ====
section
/-! DEFINITION. BIT, RES, SET (44_rotate_shift_bit.md R230 to R235). -/

namespace Sys2Proof.Machine

/-! ### The shared forms -/

/-- BIT on the byte `v`: Z is the inverse of the tested bit, N = 0, H = 1, C unchanged (R230). -/
def State.testBitFlags (s : State) (b : Oct) (v : Byte) : State :=
  s.setFlags (!v.getLsbD b.toNat) false true s.flagC

/-- `v & ~(1 << b)` (R232). -/
def clearBit (b : Oct) (v : Byte) : Byte := v &&& ~~~(bitMask b.toNat)

/-- `v | (1 << b)` (R234). -/
def raiseBit (b : Oct) (v : Byte) : Byte := v ||| bitMask b.toNat

/-- `BIT b,r` (R230). -/
def bitReg (b : Oct) (r : Reg8) (s : State) : Result := .next (s.testBitFlags b (s.reg r))

/-- `BIT b,(HL)` (R231). -/
def bitMem (b : Oct) (s : State) : Result :=
  withRead s s.hl fun v => .next (s.testBitFlags b v)

/-- `RES b,r` (R232). -/
def resReg (b : Oct) (r : Reg8) (s : State) : Result := .next (s.setReg r (clearBit b (s.reg r)))

/-- `RES b,(HL)`: the write happens even when the bit was already 0 (R233). -/
def resMem (b : Oct) (s : State) : Result :=
  withRead s s.hl fun v => .next (s.memWrite s.hl (clearBit b v))

/-- `SET b,r` (R234). -/
def setBitReg (b : Oct) (r : Reg8) (s : State) : Result := .next (s.setReg r (raiseBit b (s.reg r)))

/-- `SET b,(HL)` (R235). -/
def setBitMem (b : Oct) (s : State) : Result :=
  withRead s s.hl fun v => .next (s.memWrite s.hl (raiseBit b v))

/-! ### One meaning per instruction -/

/-- `BIT 0,B` (R230). -/
def execBit_0_B (s : State) : Result := bitReg .o0 .B s

/-- `BIT 0,C` (R230). -/
def execBit_0_C (s : State) : Result := bitReg .o0 .C s

/-- `BIT 0,D` (R230). -/
def execBit_0_D (s : State) : Result := bitReg .o0 .D s

/-- `BIT 0,E` (R230). -/
def execBit_0_E (s : State) : Result := bitReg .o0 .E s

/-- `BIT 0,H` (R230). -/
def execBit_0_H (s : State) : Result := bitReg .o0 .H s

/-- `BIT 0,L` (R230). -/
def execBit_0_L (s : State) : Result := bitReg .o0 .L s

/-- `BIT 0,(HL)` (R231). -/
def execBit_0_mHL (s : State) : Result := bitMem .o0 s

/-- `BIT 0,A` (R230). -/
def execBit_0_A (s : State) : Result := bitReg .o0 .A s

/-- `BIT 1,B` (R230). -/
def execBit_1_B (s : State) : Result := bitReg .o1 .B s

/-- `BIT 1,C` (R230). -/
def execBit_1_C (s : State) : Result := bitReg .o1 .C s

/-- `BIT 1,D` (R230). -/
def execBit_1_D (s : State) : Result := bitReg .o1 .D s

/-- `BIT 1,E` (R230). -/
def execBit_1_E (s : State) : Result := bitReg .o1 .E s

/-- `BIT 1,H` (R230). -/
def execBit_1_H (s : State) : Result := bitReg .o1 .H s

/-- `BIT 1,L` (R230). -/
def execBit_1_L (s : State) : Result := bitReg .o1 .L s

/-- `BIT 1,(HL)` (R231). -/
def execBit_1_mHL (s : State) : Result := bitMem .o1 s

/-- `BIT 1,A` (R230). -/
def execBit_1_A (s : State) : Result := bitReg .o1 .A s

/-- `BIT 2,B` (R230). -/
def execBit_2_B (s : State) : Result := bitReg .o2 .B s

/-- `BIT 2,C` (R230). -/
def execBit_2_C (s : State) : Result := bitReg .o2 .C s

/-- `BIT 2,D` (R230). -/
def execBit_2_D (s : State) : Result := bitReg .o2 .D s

/-- `BIT 2,E` (R230). -/
def execBit_2_E (s : State) : Result := bitReg .o2 .E s

/-- `BIT 2,H` (R230). -/
def execBit_2_H (s : State) : Result := bitReg .o2 .H s

/-- `BIT 2,L` (R230). -/
def execBit_2_L (s : State) : Result := bitReg .o2 .L s

/-- `BIT 2,(HL)` (R231). -/
def execBit_2_mHL (s : State) : Result := bitMem .o2 s

/-- `BIT 2,A` (R230). -/
def execBit_2_A (s : State) : Result := bitReg .o2 .A s

/-- `BIT 3,B` (R230). -/
def execBit_3_B (s : State) : Result := bitReg .o3 .B s

/-- `BIT 3,C` (R230). -/
def execBit_3_C (s : State) : Result := bitReg .o3 .C s

/-- `BIT 3,D` (R230). -/
def execBit_3_D (s : State) : Result := bitReg .o3 .D s

/-- `BIT 3,E` (R230). -/
def execBit_3_E (s : State) : Result := bitReg .o3 .E s

/-- `BIT 3,H` (R230). -/
def execBit_3_H (s : State) : Result := bitReg .o3 .H s

/-- `BIT 3,L` (R230). -/
def execBit_3_L (s : State) : Result := bitReg .o3 .L s

/-- `BIT 3,(HL)` (R231). -/
def execBit_3_mHL (s : State) : Result := bitMem .o3 s

/-- `BIT 3,A` (R230). -/
def execBit_3_A (s : State) : Result := bitReg .o3 .A s

/-- `BIT 4,B` (R230). -/
def execBit_4_B (s : State) : Result := bitReg .o4 .B s

/-- `BIT 4,C` (R230). -/
def execBit_4_C (s : State) : Result := bitReg .o4 .C s

/-- `BIT 4,D` (R230). -/
def execBit_4_D (s : State) : Result := bitReg .o4 .D s

/-- `BIT 4,E` (R230). -/
def execBit_4_E (s : State) : Result := bitReg .o4 .E s

/-- `BIT 4,H` (R230). -/
def execBit_4_H (s : State) : Result := bitReg .o4 .H s

/-- `BIT 4,L` (R230). -/
def execBit_4_L (s : State) : Result := bitReg .o4 .L s

/-- `BIT 4,(HL)` (R231). -/
def execBit_4_mHL (s : State) : Result := bitMem .o4 s

/-- `BIT 4,A` (R230). -/
def execBit_4_A (s : State) : Result := bitReg .o4 .A s

/-- `BIT 5,B` (R230). -/
def execBit_5_B (s : State) : Result := bitReg .o5 .B s

/-- `BIT 5,C` (R230). -/
def execBit_5_C (s : State) : Result := bitReg .o5 .C s

/-- `BIT 5,D` (R230). -/
def execBit_5_D (s : State) : Result := bitReg .o5 .D s

/-- `BIT 5,E` (R230). -/
def execBit_5_E (s : State) : Result := bitReg .o5 .E s

/-- `BIT 5,H` (R230). -/
def execBit_5_H (s : State) : Result := bitReg .o5 .H s

/-- `BIT 5,L` (R230). -/
def execBit_5_L (s : State) : Result := bitReg .o5 .L s

/-- `BIT 5,(HL)` (R231). -/
def execBit_5_mHL (s : State) : Result := bitMem .o5 s

/-- `BIT 5,A` (R230). -/
def execBit_5_A (s : State) : Result := bitReg .o5 .A s

/-- `BIT 6,B` (R230). -/
def execBit_6_B (s : State) : Result := bitReg .o6 .B s

/-- `BIT 6,C` (R230). -/
def execBit_6_C (s : State) : Result := bitReg .o6 .C s

/-- `BIT 6,D` (R230). -/
def execBit_6_D (s : State) : Result := bitReg .o6 .D s

/-- `BIT 6,E` (R230). -/
def execBit_6_E (s : State) : Result := bitReg .o6 .E s

/-- `BIT 6,H` (R230). -/
def execBit_6_H (s : State) : Result := bitReg .o6 .H s

/-- `BIT 6,L` (R230). -/
def execBit_6_L (s : State) : Result := bitReg .o6 .L s

/-- `BIT 6,(HL)` (R231). -/
def execBit_6_mHL (s : State) : Result := bitMem .o6 s

/-- `BIT 6,A` (R230). -/
def execBit_6_A (s : State) : Result := bitReg .o6 .A s

/-- `BIT 7,B` (R230). -/
def execBit_7_B (s : State) : Result := bitReg .o7 .B s

/-- `BIT 7,C` (R230). -/
def execBit_7_C (s : State) : Result := bitReg .o7 .C s

/-- `BIT 7,D` (R230). -/
def execBit_7_D (s : State) : Result := bitReg .o7 .D s

/-- `BIT 7,E` (R230). -/
def execBit_7_E (s : State) : Result := bitReg .o7 .E s

/-- `BIT 7,H` (R230). -/
def execBit_7_H (s : State) : Result := bitReg .o7 .H s

/-- `BIT 7,L` (R230). -/
def execBit_7_L (s : State) : Result := bitReg .o7 .L s

/-- `BIT 7,(HL)` (R231). -/
def execBit_7_mHL (s : State) : Result := bitMem .o7 s

/-- `BIT 7,A` (R230). -/
def execBit_7_A (s : State) : Result := bitReg .o7 .A s

/-- `RES 0,B` (R232). -/
def execRes_0_B (s : State) : Result := resReg .o0 .B s

/-- `RES 0,C` (R232). -/
def execRes_0_C (s : State) : Result := resReg .o0 .C s

/-- `RES 0,D` (R232). -/
def execRes_0_D (s : State) : Result := resReg .o0 .D s

/-- `RES 0,E` (R232). -/
def execRes_0_E (s : State) : Result := resReg .o0 .E s

/-- `RES 0,H` (R232). -/
def execRes_0_H (s : State) : Result := resReg .o0 .H s

/-- `RES 0,L` (R232). -/
def execRes_0_L (s : State) : Result := resReg .o0 .L s

/-- `RES 0,(HL)` (R233). -/
def execRes_0_mHL (s : State) : Result := resMem .o0 s

/-- `RES 0,A` (R232). -/
def execRes_0_A (s : State) : Result := resReg .o0 .A s

/-- `RES 1,B` (R232). -/
def execRes_1_B (s : State) : Result := resReg .o1 .B s

/-- `RES 1,C` (R232). -/
def execRes_1_C (s : State) : Result := resReg .o1 .C s

/-- `RES 1,D` (R232). -/
def execRes_1_D (s : State) : Result := resReg .o1 .D s

/-- `RES 1,E` (R232). -/
def execRes_1_E (s : State) : Result := resReg .o1 .E s

/-- `RES 1,H` (R232). -/
def execRes_1_H (s : State) : Result := resReg .o1 .H s

/-- `RES 1,L` (R232). -/
def execRes_1_L (s : State) : Result := resReg .o1 .L s

/-- `RES 1,(HL)` (R233). -/
def execRes_1_mHL (s : State) : Result := resMem .o1 s

/-- `RES 1,A` (R232). -/
def execRes_1_A (s : State) : Result := resReg .o1 .A s

/-- `RES 2,B` (R232). -/
def execRes_2_B (s : State) : Result := resReg .o2 .B s

/-- `RES 2,C` (R232). -/
def execRes_2_C (s : State) : Result := resReg .o2 .C s

/-- `RES 2,D` (R232). -/
def execRes_2_D (s : State) : Result := resReg .o2 .D s

/-- `RES 2,E` (R232). -/
def execRes_2_E (s : State) : Result := resReg .o2 .E s

/-- `RES 2,H` (R232). -/
def execRes_2_H (s : State) : Result := resReg .o2 .H s

/-- `RES 2,L` (R232). -/
def execRes_2_L (s : State) : Result := resReg .o2 .L s

/-- `RES 2,(HL)` (R233). -/
def execRes_2_mHL (s : State) : Result := resMem .o2 s

/-- `RES 2,A` (R232). -/
def execRes_2_A (s : State) : Result := resReg .o2 .A s

/-- `RES 3,B` (R232). -/
def execRes_3_B (s : State) : Result := resReg .o3 .B s

/-- `RES 3,C` (R232). -/
def execRes_3_C (s : State) : Result := resReg .o3 .C s

/-- `RES 3,D` (R232). -/
def execRes_3_D (s : State) : Result := resReg .o3 .D s

/-- `RES 3,E` (R232). -/
def execRes_3_E (s : State) : Result := resReg .o3 .E s

/-- `RES 3,H` (R232). -/
def execRes_3_H (s : State) : Result := resReg .o3 .H s

/-- `RES 3,L` (R232). -/
def execRes_3_L (s : State) : Result := resReg .o3 .L s

/-- `RES 3,(HL)` (R233). -/
def execRes_3_mHL (s : State) : Result := resMem .o3 s

/-- `RES 3,A` (R232). -/
def execRes_3_A (s : State) : Result := resReg .o3 .A s

/-- `RES 4,B` (R232). -/
def execRes_4_B (s : State) : Result := resReg .o4 .B s

/-- `RES 4,C` (R232). -/
def execRes_4_C (s : State) : Result := resReg .o4 .C s

/-- `RES 4,D` (R232). -/
def execRes_4_D (s : State) : Result := resReg .o4 .D s

/-- `RES 4,E` (R232). -/
def execRes_4_E (s : State) : Result := resReg .o4 .E s

/-- `RES 4,H` (R232). -/
def execRes_4_H (s : State) : Result := resReg .o4 .H s

/-- `RES 4,L` (R232). -/
def execRes_4_L (s : State) : Result := resReg .o4 .L s

/-- `RES 4,(HL)` (R233). -/
def execRes_4_mHL (s : State) : Result := resMem .o4 s

/-- `RES 4,A` (R232). -/
def execRes_4_A (s : State) : Result := resReg .o4 .A s

/-- `RES 5,B` (R232). -/
def execRes_5_B (s : State) : Result := resReg .o5 .B s

/-- `RES 5,C` (R232). -/
def execRes_5_C (s : State) : Result := resReg .o5 .C s

/-- `RES 5,D` (R232). -/
def execRes_5_D (s : State) : Result := resReg .o5 .D s

/-- `RES 5,E` (R232). -/
def execRes_5_E (s : State) : Result := resReg .o5 .E s

/-- `RES 5,H` (R232). -/
def execRes_5_H (s : State) : Result := resReg .o5 .H s

/-- `RES 5,L` (R232). -/
def execRes_5_L (s : State) : Result := resReg .o5 .L s

/-- `RES 5,(HL)` (R233). -/
def execRes_5_mHL (s : State) : Result := resMem .o5 s

/-- `RES 5,A` (R232). -/
def execRes_5_A (s : State) : Result := resReg .o5 .A s

/-- `RES 6,B` (R232). -/
def execRes_6_B (s : State) : Result := resReg .o6 .B s

/-- `RES 6,C` (R232). -/
def execRes_6_C (s : State) : Result := resReg .o6 .C s

/-- `RES 6,D` (R232). -/
def execRes_6_D (s : State) : Result := resReg .o6 .D s

/-- `RES 6,E` (R232). -/
def execRes_6_E (s : State) : Result := resReg .o6 .E s

/-- `RES 6,H` (R232). -/
def execRes_6_H (s : State) : Result := resReg .o6 .H s

/-- `RES 6,L` (R232). -/
def execRes_6_L (s : State) : Result := resReg .o6 .L s

/-- `RES 6,(HL)` (R233). -/
def execRes_6_mHL (s : State) : Result := resMem .o6 s

/-- `RES 6,A` (R232). -/
def execRes_6_A (s : State) : Result := resReg .o6 .A s

/-- `RES 7,B` (R232). -/
def execRes_7_B (s : State) : Result := resReg .o7 .B s

/-- `RES 7,C` (R232). -/
def execRes_7_C (s : State) : Result := resReg .o7 .C s

/-- `RES 7,D` (R232). -/
def execRes_7_D (s : State) : Result := resReg .o7 .D s

/-- `RES 7,E` (R232). -/
def execRes_7_E (s : State) : Result := resReg .o7 .E s

/-- `RES 7,H` (R232). -/
def execRes_7_H (s : State) : Result := resReg .o7 .H s

/-- `RES 7,L` (R232). -/
def execRes_7_L (s : State) : Result := resReg .o7 .L s

/-- `RES 7,(HL)` (R233). -/
def execRes_7_mHL (s : State) : Result := resMem .o7 s

/-- `RES 7,A` (R232). -/
def execRes_7_A (s : State) : Result := resReg .o7 .A s

/-- `SET 0,B` (R234). -/
def execSet_0_B (s : State) : Result := setBitReg .o0 .B s

/-- `SET 0,C` (R234). -/
def execSet_0_C (s : State) : Result := setBitReg .o0 .C s

/-- `SET 0,D` (R234). -/
def execSet_0_D (s : State) : Result := setBitReg .o0 .D s

/-- `SET 0,E` (R234). -/
def execSet_0_E (s : State) : Result := setBitReg .o0 .E s

/-- `SET 0,H` (R234). -/
def execSet_0_H (s : State) : Result := setBitReg .o0 .H s

/-- `SET 0,L` (R234). -/
def execSet_0_L (s : State) : Result := setBitReg .o0 .L s

/-- `SET 0,(HL)` (R235). -/
def execSet_0_mHL (s : State) : Result := setBitMem .o0 s

/-- `SET 0,A` (R234). -/
def execSet_0_A (s : State) : Result := setBitReg .o0 .A s

/-- `SET 1,B` (R234). -/
def execSet_1_B (s : State) : Result := setBitReg .o1 .B s

/-- `SET 1,C` (R234). -/
def execSet_1_C (s : State) : Result := setBitReg .o1 .C s

/-- `SET 1,D` (R234). -/
def execSet_1_D (s : State) : Result := setBitReg .o1 .D s

/-- `SET 1,E` (R234). -/
def execSet_1_E (s : State) : Result := setBitReg .o1 .E s

/-- `SET 1,H` (R234). -/
def execSet_1_H (s : State) : Result := setBitReg .o1 .H s

/-- `SET 1,L` (R234). -/
def execSet_1_L (s : State) : Result := setBitReg .o1 .L s

/-- `SET 1,(HL)` (R235). -/
def execSet_1_mHL (s : State) : Result := setBitMem .o1 s

/-- `SET 1,A` (R234). -/
def execSet_1_A (s : State) : Result := setBitReg .o1 .A s

/-- `SET 2,B` (R234). -/
def execSet_2_B (s : State) : Result := setBitReg .o2 .B s

/-- `SET 2,C` (R234). -/
def execSet_2_C (s : State) : Result := setBitReg .o2 .C s

/-- `SET 2,D` (R234). -/
def execSet_2_D (s : State) : Result := setBitReg .o2 .D s

/-- `SET 2,E` (R234). -/
def execSet_2_E (s : State) : Result := setBitReg .o2 .E s

/-- `SET 2,H` (R234). -/
def execSet_2_H (s : State) : Result := setBitReg .o2 .H s

/-- `SET 2,L` (R234). -/
def execSet_2_L (s : State) : Result := setBitReg .o2 .L s

/-- `SET 2,(HL)` (R235). -/
def execSet_2_mHL (s : State) : Result := setBitMem .o2 s

/-- `SET 2,A` (R234). -/
def execSet_2_A (s : State) : Result := setBitReg .o2 .A s

/-- `SET 3,B` (R234). -/
def execSet_3_B (s : State) : Result := setBitReg .o3 .B s

/-- `SET 3,C` (R234). -/
def execSet_3_C (s : State) : Result := setBitReg .o3 .C s

/-- `SET 3,D` (R234). -/
def execSet_3_D (s : State) : Result := setBitReg .o3 .D s

/-- `SET 3,E` (R234). -/
def execSet_3_E (s : State) : Result := setBitReg .o3 .E s

/-- `SET 3,H` (R234). -/
def execSet_3_H (s : State) : Result := setBitReg .o3 .H s

/-- `SET 3,L` (R234). -/
def execSet_3_L (s : State) : Result := setBitReg .o3 .L s

/-- `SET 3,(HL)` (R235). -/
def execSet_3_mHL (s : State) : Result := setBitMem .o3 s

/-- `SET 3,A` (R234). -/
def execSet_3_A (s : State) : Result := setBitReg .o3 .A s

/-- `SET 4,B` (R234). -/
def execSet_4_B (s : State) : Result := setBitReg .o4 .B s

/-- `SET 4,C` (R234). -/
def execSet_4_C (s : State) : Result := setBitReg .o4 .C s

/-- `SET 4,D` (R234). -/
def execSet_4_D (s : State) : Result := setBitReg .o4 .D s

/-- `SET 4,E` (R234). -/
def execSet_4_E (s : State) : Result := setBitReg .o4 .E s

/-- `SET 4,H` (R234). -/
def execSet_4_H (s : State) : Result := setBitReg .o4 .H s

/-- `SET 4,L` (R234). -/
def execSet_4_L (s : State) : Result := setBitReg .o4 .L s

/-- `SET 4,(HL)` (R235). -/
def execSet_4_mHL (s : State) : Result := setBitMem .o4 s

/-- `SET 4,A` (R234). -/
def execSet_4_A (s : State) : Result := setBitReg .o4 .A s

/-- `SET 5,B` (R234). -/
def execSet_5_B (s : State) : Result := setBitReg .o5 .B s

/-- `SET 5,C` (R234). -/
def execSet_5_C (s : State) : Result := setBitReg .o5 .C s

/-- `SET 5,D` (R234). -/
def execSet_5_D (s : State) : Result := setBitReg .o5 .D s

/-- `SET 5,E` (R234). -/
def execSet_5_E (s : State) : Result := setBitReg .o5 .E s

/-- `SET 5,H` (R234). -/
def execSet_5_H (s : State) : Result := setBitReg .o5 .H s

/-- `SET 5,L` (R234). -/
def execSet_5_L (s : State) : Result := setBitReg .o5 .L s

/-- `SET 5,(HL)` (R235). -/
def execSet_5_mHL (s : State) : Result := setBitMem .o5 s

/-- `SET 5,A` (R234). -/
def execSet_5_A (s : State) : Result := setBitReg .o5 .A s

/-- `SET 6,B` (R234). -/
def execSet_6_B (s : State) : Result := setBitReg .o6 .B s

/-- `SET 6,C` (R234). -/
def execSet_6_C (s : State) : Result := setBitReg .o6 .C s

/-- `SET 6,D` (R234). -/
def execSet_6_D (s : State) : Result := setBitReg .o6 .D s

/-- `SET 6,E` (R234). -/
def execSet_6_E (s : State) : Result := setBitReg .o6 .E s

/-- `SET 6,H` (R234). -/
def execSet_6_H (s : State) : Result := setBitReg .o6 .H s

/-- `SET 6,L` (R234). -/
def execSet_6_L (s : State) : Result := setBitReg .o6 .L s

/-- `SET 6,(HL)` (R235). -/
def execSet_6_mHL (s : State) : Result := setBitMem .o6 s

/-- `SET 6,A` (R234). -/
def execSet_6_A (s : State) : Result := setBitReg .o6 .A s

/-- `SET 7,B` (R234). -/
def execSet_7_B (s : State) : Result := setBitReg .o7 .B s

/-- `SET 7,C` (R234). -/
def execSet_7_C (s : State) : Result := setBitReg .o7 .C s

/-- `SET 7,D` (R234). -/
def execSet_7_D (s : State) : Result := setBitReg .o7 .D s

/-- `SET 7,E` (R234). -/
def execSet_7_E (s : State) : Result := setBitReg .o7 .E s

/-- `SET 7,H` (R234). -/
def execSet_7_H (s : State) : Result := setBitReg .o7 .H s

/-- `SET 7,L` (R234). -/
def execSet_7_L (s : State) : Result := setBitReg .o7 .L s

/-- `SET 7,(HL)` (R235). -/
def execSet_7_mHL (s : State) : Result := setBitMem .o7 s

/-- `SET 7,A` (R234). -/
def execSet_7_A (s : State) : Result := setBitReg .o7 .A s

end Sys2Proof.Machine
end

