-- ==== Sys2Proof/Machine/Control.lean ====
section
/-! DEFINITION. Control transfer (45_control.md R240 to R251). PC on entry is the address after the instruction;
a false condition leaves it there. No flag is written. -/

namespace Sys2Proof.Machine

/-! ### The shared forms -/

/-- `pc <- target`. -/
def jumpTo (target : Word) (s : State) : Result := .next { s with pc := target }

/-- `if cond(cc): pc <- target` (R242, R245). -/
def jumpIf (cc : Cond) (target : Word) (s : State) : Result :=
  if s.cond cc then jumpTo target s else .next s

/-- `Push16(PC); pc <- target` (R246, R251). -/
def callTo (target : Word) (s : State) : Result := .next { s.push16 s.pc with pc := target }

/-- `if cond(cc): Push16(PC); pc <- target` (R247). -/
def callIf (cc : Cond) (target : Word) (s : State) : Result :=
  if s.cond cc then callTo target s else .next s

/-- `pc <- Pop16()` (R248). -/
def returnTo (s : State) : Result := withPop s fun w t => .next { t with pc := w }

/-- `if cond(cc): pc <- Pop16()` (R249). -/
def returnIf (cc : Cond) (s : State) : Result :=
  if s.cond cc then returnTo s else .next s

/-- The restart target `t = 8 * y` (R110). -/
def restartTarget (y : Oct) : Word := BitVec.ofNat 16 (8 * y.toNat)

/-- `RST t` (R251). -/
def restart (y : Oct) (s : State) : Result := callTo (restartTarget y) s

/-! ### One meaning per instruction -/

/-- `JR e` (R244). -/
def execJr_e (e : Byte) (s : State) : Result := jumpTo (s.pc + sext16 e) s

/-- `JR NZ,e` (R245). -/
def execJr_NZ_e (e : Byte) (s : State) : Result := jumpIf .nz (s.pc + sext16 e) s

/-- `JR Z,e` (R245). -/
def execJr_Z_e (e : Byte) (s : State) : Result := jumpIf .z (s.pc + sext16 e) s

/-- `JR NC,e` (R245). -/
def execJr_NC_e (e : Byte) (s : State) : Result := jumpIf .nc (s.pc + sext16 e) s

/-- `JR C,e` (R245). -/
def execJr_C_e (e : Byte) (s : State) : Result := jumpIf .c (s.pc + sext16 e) s

/-- `RET NZ` (R249). -/
def execRet_NZ (s : State) : Result := returnIf .nz s

/-- `JP NZ,nn` (R242). -/
def execJp_NZ_nn (nn : Word) (s : State) : Result := jumpIf .nz nn s

/-- `JP nn` (R241). -/
def execJp_nn (nn : Word) (s : State) : Result := jumpTo nn s

/-- `CALL NZ,nn` (R247). -/
def execCall_NZ_nn (nn : Word) (s : State) : Result := callIf .nz nn s

/-- `RST 0x00` (R251). -/
def execRst_00 (s : State) : Result := restart .o0 s

/-- `RET Z` (R249). -/
def execRet_Z (s : State) : Result := returnIf .z s

/-- `RET` (R248). -/
def execRet (s : State) : Result := returnTo s

/-- `JP Z,nn` (R242). -/
def execJp_Z_nn (nn : Word) (s : State) : Result := jumpIf .z nn s

/-- `CALL Z,nn` (R247). -/
def execCall_Z_nn (nn : Word) (s : State) : Result := callIf .z nn s

/-- `CALL nn` (R246). -/
def execCall_nn (nn : Word) (s : State) : Result := callTo nn s

/-- `RST 0x08` (R251). -/
def execRst_08 (s : State) : Result := restart .o1 s

/-- `RET NC` (R249). -/
def execRet_NC (s : State) : Result := returnIf .nc s

/-- `JP NC,nn` (R242). -/
def execJp_NC_nn (nn : Word) (s : State) : Result := jumpIf .nc nn s

/-- `CALL NC,nn` (R247). -/
def execCall_NC_nn (nn : Word) (s : State) : Result := callIf .nc nn s

/-- `RST 0x10` (R251). -/
def execRst_10 (s : State) : Result := restart .o2 s

/-- `RET C` (R249). -/
def execRet_C (s : State) : Result := returnIf .c s

/-- `RETI` (R250). -/
def execReti (s : State) : Result := returnFromInterrupt s

/-- `JP C,nn` (R242). -/
def execJp_C_nn (nn : Word) (s : State) : Result := jumpIf .c nn s

/-- `CALL C,nn` (R247). -/
def execCall_C_nn (nn : Word) (s : State) : Result := callIf .c nn s

/-- `RST 0x18` (R251). -/
def execRst_18 (s : State) : Result := restart .o3 s

/-- `RST 0x20` (R251). -/
def execRst_20 (s : State) : Result := restart .o4 s

/-- `JP HL` (R243). -/
def execJp_HL (s : State) : Result := jumpTo s.hl s

/-- `RST 0x28` (R251). -/
def execRst_28 (s : State) : Result := restart .o5 s

/-- `RST 0x30` (R251). -/
def execRst_30 (s : State) : Result := restart .o6 s

/-- `RST 0x38` (R251). -/
def execRst_38 (s : State) : Result := restart .o7 s

end Sys2Proof.Machine
end

