-- ==== Sys2Proof/Machine/Load8.lean ====
section
/-! DEFINITION. 8-bit loads (40_load8.md R130 to R148). PC already points past the instruction (R25, R100); no load
touches a flag. -/

namespace Sys2Proof.Machine

/-! ### The shared forms -/

/-- `x[d] <- x[r]` (R130). -/
def loadRegReg (d r : Reg8) (s : State) : Result := .next (s.setReg d (s.reg r))

/-- `x[d] <- n` (R131). -/
def loadRegImm (d : Reg8) (n : Byte) (s : State) : Result := .next (s.setReg d n)

/-- `x[d] <- MemRead(addr, 1)` (R132, R135, R136, R139, R141, R143). -/
def loadRegMem (d : Reg8) (addr : Word) (s : State) : Result :=
  withRead s addr fun v => .next (s.setReg d v)

/-- `MemWrite(addr, 1, v)` (R133, R134, R137, R138, R140, R142, R144). -/
def storeByte (addr : Word) (v : Byte) (s : State) : Result := .next (s.memWrite addr v)

/-- `A <- MemRead(HL, 1)`, then HL moves by `step`; on a fault HL stays (R145, R147). -/
def loadAndMoveHl (step : Word) (s : State) : Result :=
  withRead s s.hl fun v => .next ((s.setReg .A v).setHl (s.hl + step))

/-- `MemWrite(HL, 1, A)`, then HL moves by `step` (R146, R148). -/
def storeAndMoveHl (step : Word) (s : State) : Result :=
  .next ((s.memWrite s.hl s.a).setHl (s.hl + step))

/-- The address `0xFF00 | n` of the LDH forms (R141 to R144). -/
def highPage (n : Byte) : Word := 0xFF00 ||| zext16 n

/-! ### One meaning per instruction -/

/-- `LD (BC),A` (R137). -/
def execLd_mBC_A (s : State) : Result := storeByte s.bc s.a s

/-- `LD B,n` (R131). -/
def execLd_B_n (n : Byte) (s : State) : Result := loadRegImm .B n s

/-- `LD A,(BC)` (R135). -/
def execLd_A_mBC (s : State) : Result := loadRegMem .A s.bc s

/-- `LD C,n` (R131). -/
def execLd_C_n (n : Byte) (s : State) : Result := loadRegImm .C n s

/-- `LD (DE),A` (R138). -/
def execLd_mDE_A (s : State) : Result := storeByte s.de s.a s

/-- `LD D,n` (R131). -/
def execLd_D_n (n : Byte) (s : State) : Result := loadRegImm .D n s

/-- `LD A,(DE)` (R136). -/
def execLd_A_mDE (s : State) : Result := loadRegMem .A s.de s

/-- `LD E,n` (R131). -/
def execLd_E_n (n : Byte) (s : State) : Result := loadRegImm .E n s

/-- `LD (HL+),A` (R148). -/
def execLd_mHLinc_A (s : State) : Result := storeAndMoveHl 1 s

/-- `LD H,n` (R131). -/
def execLd_H_n (n : Byte) (s : State) : Result := loadRegImm .H n s

/-- `LD A,(HL+)` (R147). -/
def execLd_A_mHLinc (s : State) : Result := loadAndMoveHl 1 s

/-- `LD L,n` (R131). -/
def execLd_L_n (n : Byte) (s : State) : Result := loadRegImm .L n s

/-- `LD (HL-),A` (R146). -/
def execLd_mHLdec_A (s : State) : Result := storeAndMoveHl (-1) s

/-- `LD (HL),n` (R134). -/
def execLd_mHL_n (n : Byte) (s : State) : Result := storeByte s.hl n s

/-- `LD A,(HL-)` (R145). -/
def execLd_A_mHLdec (s : State) : Result := loadAndMoveHl (-1) s

/-- `LD A,n` (R131). -/
def execLd_A_n (n : Byte) (s : State) : Result := loadRegImm .A n s

/-- `LD B,B` (R130). -/
def execLd_B_B (s : State) : Result := loadRegReg .B .B s

/-- `LD B,C` (R130). -/
def execLd_B_C (s : State) : Result := loadRegReg .B .C s

/-- `LD B,D` (R130). -/
def execLd_B_D (s : State) : Result := loadRegReg .B .D s

/-- `LD B,E` (R130). -/
def execLd_B_E (s : State) : Result := loadRegReg .B .E s

/-- `LD B,H` (R130). -/
def execLd_B_H (s : State) : Result := loadRegReg .B .H s

/-- `LD B,L` (R130). -/
def execLd_B_L (s : State) : Result := loadRegReg .B .L s

/-- `LD B,(HL)` (R132). -/
def execLd_B_mHL (s : State) : Result := loadRegMem .B s.hl s

/-- `LD B,A` (R130). -/
def execLd_B_A (s : State) : Result := loadRegReg .B .A s

/-- `LD C,B` (R130). -/
def execLd_C_B (s : State) : Result := loadRegReg .C .B s

/-- `LD C,C` (R130). -/
def execLd_C_C (s : State) : Result := loadRegReg .C .C s

/-- `LD C,D` (R130). -/
def execLd_C_D (s : State) : Result := loadRegReg .C .D s

/-- `LD C,E` (R130). -/
def execLd_C_E (s : State) : Result := loadRegReg .C .E s

/-- `LD C,H` (R130). -/
def execLd_C_H (s : State) : Result := loadRegReg .C .H s

/-- `LD C,L` (R130). -/
def execLd_C_L (s : State) : Result := loadRegReg .C .L s

/-- `LD C,(HL)` (R132). -/
def execLd_C_mHL (s : State) : Result := loadRegMem .C s.hl s

/-- `LD C,A` (R130). -/
def execLd_C_A (s : State) : Result := loadRegReg .C .A s

/-- `LD D,B` (R130). -/
def execLd_D_B (s : State) : Result := loadRegReg .D .B s

/-- `LD D,C` (R130). -/
def execLd_D_C (s : State) : Result := loadRegReg .D .C s

/-- `LD D,D` (R130). -/
def execLd_D_D (s : State) : Result := loadRegReg .D .D s

/-- `LD D,E` (R130). -/
def execLd_D_E (s : State) : Result := loadRegReg .D .E s

/-- `LD D,H` (R130). -/
def execLd_D_H (s : State) : Result := loadRegReg .D .H s

/-- `LD D,L` (R130). -/
def execLd_D_L (s : State) : Result := loadRegReg .D .L s

/-- `LD D,(HL)` (R132). -/
def execLd_D_mHL (s : State) : Result := loadRegMem .D s.hl s

/-- `LD D,A` (R130). -/
def execLd_D_A (s : State) : Result := loadRegReg .D .A s

/-- `LD E,B` (R130). -/
def execLd_E_B (s : State) : Result := loadRegReg .E .B s

/-- `LD E,C` (R130). -/
def execLd_E_C (s : State) : Result := loadRegReg .E .C s

/-- `LD E,D` (R130). -/
def execLd_E_D (s : State) : Result := loadRegReg .E .D s

/-- `LD E,E` (R130). -/
def execLd_E_E (s : State) : Result := loadRegReg .E .E s

/-- `LD E,H` (R130). -/
def execLd_E_H (s : State) : Result := loadRegReg .E .H s

/-- `LD E,L` (R130). -/
def execLd_E_L (s : State) : Result := loadRegReg .E .L s

/-- `LD E,(HL)` (R132). -/
def execLd_E_mHL (s : State) : Result := loadRegMem .E s.hl s

/-- `LD E,A` (R130). -/
def execLd_E_A (s : State) : Result := loadRegReg .E .A s

/-- `LD H,B` (R130). -/
def execLd_H_B (s : State) : Result := loadRegReg .H .B s

/-- `LD H,C` (R130). -/
def execLd_H_C (s : State) : Result := loadRegReg .H .C s

/-- `LD H,D` (R130). -/
def execLd_H_D (s : State) : Result := loadRegReg .H .D s

/-- `LD H,E` (R130). -/
def execLd_H_E (s : State) : Result := loadRegReg .H .E s

/-- `LD H,H` (R130). -/
def execLd_H_H (s : State) : Result := loadRegReg .H .H s

/-- `LD H,L` (R130). -/
def execLd_H_L (s : State) : Result := loadRegReg .H .L s

/-- `LD H,(HL)` (R132). -/
def execLd_H_mHL (s : State) : Result := loadRegMem .H s.hl s

/-- `LD H,A` (R130). -/
def execLd_H_A (s : State) : Result := loadRegReg .H .A s

/-- `LD L,B` (R130). -/
def execLd_L_B (s : State) : Result := loadRegReg .L .B s

/-- `LD L,C` (R130). -/
def execLd_L_C (s : State) : Result := loadRegReg .L .C s

/-- `LD L,D` (R130). -/
def execLd_L_D (s : State) : Result := loadRegReg .L .D s

/-- `LD L,E` (R130). -/
def execLd_L_E (s : State) : Result := loadRegReg .L .E s

/-- `LD L,H` (R130). -/
def execLd_L_H (s : State) : Result := loadRegReg .L .H s

/-- `LD L,L` (R130). -/
def execLd_L_L (s : State) : Result := loadRegReg .L .L s

/-- `LD L,(HL)` (R132). -/
def execLd_L_mHL (s : State) : Result := loadRegMem .L s.hl s

/-- `LD L,A` (R130). -/
def execLd_L_A (s : State) : Result := loadRegReg .L .A s

/-- `LD (HL),B` (R133). -/
def execLd_mHL_B (s : State) : Result := storeByte s.hl (s.reg .B) s

/-- `LD (HL),C` (R133). -/
def execLd_mHL_C (s : State) : Result := storeByte s.hl (s.reg .C) s

/-- `LD (HL),D` (R133). -/
def execLd_mHL_D (s : State) : Result := storeByte s.hl (s.reg .D) s

/-- `LD (HL),E` (R133). -/
def execLd_mHL_E (s : State) : Result := storeByte s.hl (s.reg .E) s

/-- `LD (HL),H` (R133). -/
def execLd_mHL_H (s : State) : Result := storeByte s.hl (s.reg .H) s

/-- `LD (HL),L` (R133). -/
def execLd_mHL_L (s : State) : Result := storeByte s.hl (s.reg .L) s

/-- `LD (HL),A` (R133). -/
def execLd_mHL_A (s : State) : Result := storeByte s.hl (s.reg .A) s

/-- `LD A,B` (R130). -/
def execLd_A_B (s : State) : Result := loadRegReg .A .B s

/-- `LD A,C` (R130). -/
def execLd_A_C (s : State) : Result := loadRegReg .A .C s

/-- `LD A,D` (R130). -/
def execLd_A_D (s : State) : Result := loadRegReg .A .D s

/-- `LD A,E` (R130). -/
def execLd_A_E (s : State) : Result := loadRegReg .A .E s

/-- `LD A,H` (R130). -/
def execLd_A_H (s : State) : Result := loadRegReg .A .H s

/-- `LD A,L` (R130). -/
def execLd_A_L (s : State) : Result := loadRegReg .A .L s

/-- `LD A,(HL)` (R132). -/
def execLd_A_mHL (s : State) : Result := loadRegMem .A s.hl s

/-- `LD A,A` (R130). -/
def execLd_A_A (s : State) : Result := loadRegReg .A .A s

/-- `LDH (n),A` (R144). -/
def execLdh_mn_A (n : Byte) (s : State) : Result := storeByte (highPage n) s.a s

/-- `LDH (C),A` (R142). -/
def execLdh_mC_A (s : State) : Result := storeByte (highPage s.c) s.a s

/-- `LD (nn),A` (R140). -/
def execLd_mnn_A (nn : Word) (s : State) : Result := storeByte nn s.a s

/-- `LDH A,(n)` (R143). -/
def execLdh_A_mn (n : Byte) (s : State) : Result := loadRegMem .A (highPage n) s

/-- `LDH A,(C)` (R141). -/
def execLdh_A_mC (s : State) : Result := loadRegMem .A (highPage s.c) s

/-- `LD A,(nn)` (R139). -/
def execLd_A_mnn (nn : Word) (s : State) : Result := loadRegMem .A nn s

end Sys2Proof.Machine
end

