-- ==== Sys2Proof/Machine/Rotate.lean ====
section
/-! DEFINITION. Rotates and shifts (44_rotate_shift_bit.md R208 to R229). -/

namespace Sys2Proof.Machine

/-! ### The shared forms -/

/-- The accumulator forms: Z, N and H are cleared whatever the result (R209). -/
def rotAccumulator (op : RotOp) (s : State) : Result :=
  let out := rotOut op s.a s.flagC
  .next ((s.setReg .A out.1).setFlags false false false out.2)

/-- The CB-prefixed register forms: Z from the result (R209). -/
def rotReg (op : RotOp) (r : Reg8) (s : State) : Result :=
  let out := rotOut op (s.reg r) s.flagC
  .next ((s.setReg r out.1).setFlags (out.1 == 0) false false out.2)

/-- The CB-prefixed memory forms: the flags come from the result, not from what memory then holds. -/
def rotMem (op : RotOp) (s : State) : Result :=
  withRead s s.hl fun v =>
    let out := rotOut op v s.flagC
    .next ((s.memWrite s.hl out.1).setFlags (out.1 == 0) false false out.2)

/-! ### One meaning per instruction -/

/-- `RLCA` (R210). -/
def execRlca (s : State) : Result := rotAccumulator .rlc s

/-- `RRCA` (R211). -/
def execRrca (s : State) : Result := rotAccumulator .rrc s

/-- `RLA` (R212). -/
def execRla (s : State) : Result := rotAccumulator .rl s

/-- `RRA` (R213). -/
def execRra (s : State) : Result := rotAccumulator .rr s

/-- `RLC B` (R214). -/
def execRlc_B (s : State) : Result := rotReg .rlc .B s

/-- `RLC C` (R214). -/
def execRlc_C (s : State) : Result := rotReg .rlc .C s

/-- `RLC D` (R214). -/
def execRlc_D (s : State) : Result := rotReg .rlc .D s

/-- `RLC E` (R214). -/
def execRlc_E (s : State) : Result := rotReg .rlc .E s

/-- `RLC H` (R214). -/
def execRlc_H (s : State) : Result := rotReg .rlc .H s

/-- `RLC L` (R214). -/
def execRlc_L (s : State) : Result := rotReg .rlc .L s

/-- `RLC (HL)` (R215). -/
def execRlc_mHL (s : State) : Result := rotMem .rlc s

/-- `RLC A` (R214). -/
def execRlc_A (s : State) : Result := rotReg .rlc .A s

/-- `RRC B` (R216). -/
def execRrc_B (s : State) : Result := rotReg .rrc .B s

/-- `RRC C` (R216). -/
def execRrc_C (s : State) : Result := rotReg .rrc .C s

/-- `RRC D` (R216). -/
def execRrc_D (s : State) : Result := rotReg .rrc .D s

/-- `RRC E` (R216). -/
def execRrc_E (s : State) : Result := rotReg .rrc .E s

/-- `RRC H` (R216). -/
def execRrc_H (s : State) : Result := rotReg .rrc .H s

/-- `RRC L` (R216). -/
def execRrc_L (s : State) : Result := rotReg .rrc .L s

/-- `RRC (HL)` (R217). -/
def execRrc_mHL (s : State) : Result := rotMem .rrc s

/-- `RRC A` (R216). -/
def execRrc_A (s : State) : Result := rotReg .rrc .A s

/-- `RL B` (R218). -/
def execRl_B (s : State) : Result := rotReg .rl .B s

/-- `RL C` (R218). -/
def execRl_C (s : State) : Result := rotReg .rl .C s

/-- `RL D` (R218). -/
def execRl_D (s : State) : Result := rotReg .rl .D s

/-- `RL E` (R218). -/
def execRl_E (s : State) : Result := rotReg .rl .E s

/-- `RL H` (R218). -/
def execRl_H (s : State) : Result := rotReg .rl .H s

/-- `RL L` (R218). -/
def execRl_L (s : State) : Result := rotReg .rl .L s

/-- `RL (HL)` (R219). -/
def execRl_mHL (s : State) : Result := rotMem .rl s

/-- `RL A` (R218). -/
def execRl_A (s : State) : Result := rotReg .rl .A s

/-- `RR B` (R220). -/
def execRr_B (s : State) : Result := rotReg .rr .B s

/-- `RR C` (R220). -/
def execRr_C (s : State) : Result := rotReg .rr .C s

/-- `RR D` (R220). -/
def execRr_D (s : State) : Result := rotReg .rr .D s

/-- `RR E` (R220). -/
def execRr_E (s : State) : Result := rotReg .rr .E s

/-- `RR H` (R220). -/
def execRr_H (s : State) : Result := rotReg .rr .H s

/-- `RR L` (R220). -/
def execRr_L (s : State) : Result := rotReg .rr .L s

/-- `RR (HL)` (R221). -/
def execRr_mHL (s : State) : Result := rotMem .rr s

/-- `RR A` (R220). -/
def execRr_A (s : State) : Result := rotReg .rr .A s

/-- `SLA B` (R222). -/
def execSla_B (s : State) : Result := rotReg .sla .B s

/-- `SLA C` (R222). -/
def execSla_C (s : State) : Result := rotReg .sla .C s

/-- `SLA D` (R222). -/
def execSla_D (s : State) : Result := rotReg .sla .D s

/-- `SLA E` (R222). -/
def execSla_E (s : State) : Result := rotReg .sla .E s

/-- `SLA H` (R222). -/
def execSla_H (s : State) : Result := rotReg .sla .H s

/-- `SLA L` (R222). -/
def execSla_L (s : State) : Result := rotReg .sla .L s

/-- `SLA (HL)` (R223). -/
def execSla_mHL (s : State) : Result := rotMem .sla s

/-- `SLA A` (R222). -/
def execSla_A (s : State) : Result := rotReg .sla .A s

/-- `SRA B` (R224). -/
def execSra_B (s : State) : Result := rotReg .sra .B s

/-- `SRA C` (R224). -/
def execSra_C (s : State) : Result := rotReg .sra .C s

/-- `SRA D` (R224). -/
def execSra_D (s : State) : Result := rotReg .sra .D s

/-- `SRA E` (R224). -/
def execSra_E (s : State) : Result := rotReg .sra .E s

/-- `SRA H` (R224). -/
def execSra_H (s : State) : Result := rotReg .sra .H s

/-- `SRA L` (R224). -/
def execSra_L (s : State) : Result := rotReg .sra .L s

/-- `SRA (HL)` (R225). -/
def execSra_mHL (s : State) : Result := rotMem .sra s

/-- `SRA A` (R224). -/
def execSra_A (s : State) : Result := rotReg .sra .A s

/-- `SWAP B` (R226). -/
def execSwap_B (s : State) : Result := rotReg .swap .B s

/-- `SWAP C` (R226). -/
def execSwap_C (s : State) : Result := rotReg .swap .C s

/-- `SWAP D` (R226). -/
def execSwap_D (s : State) : Result := rotReg .swap .D s

/-- `SWAP E` (R226). -/
def execSwap_E (s : State) : Result := rotReg .swap .E s

/-- `SWAP H` (R226). -/
def execSwap_H (s : State) : Result := rotReg .swap .H s

/-- `SWAP L` (R226). -/
def execSwap_L (s : State) : Result := rotReg .swap .L s

/-- `SWAP (HL)` (R227). -/
def execSwap_mHL (s : State) : Result := rotMem .swap s

/-- `SWAP A` (R226). -/
def execSwap_A (s : State) : Result := rotReg .swap .A s

/-- `SRL B` (R228). -/
def execSrl_B (s : State) : Result := rotReg .srl .B s

/-- `SRL C` (R228). -/
def execSrl_C (s : State) : Result := rotReg .srl .C s

/-- `SRL D` (R228). -/
def execSrl_D (s : State) : Result := rotReg .srl .D s

/-- `SRL E` (R228). -/
def execSrl_E (s : State) : Result := rotReg .srl .E s

/-- `SRL H` (R228). -/
def execSrl_H (s : State) : Result := rotReg .srl .H s

/-- `SRL L` (R228). -/
def execSrl_L (s : State) : Result := rotReg .srl .L s

/-- `SRL (HL)` (R229). -/
def execSrl_mHL (s : State) : Result := rotMem .srl s

/-- `SRL A` (R228). -/
def execSrl_A (s : State) : Result := rotReg .srl .A s

end Sys2Proof.Machine
end

