-- ==== Sys2Proof/Machine/System.lean ====
section
/-! DEFINITION. System instructions (46_system.md R255 to R259) and the undefined first bytes (30_encoding.md
R117). -/

namespace Sys2Proof.Machine

/-- `NOP` (R255). -/
def execNop (s : State) : Result := .next s

/-- `STOP`: the second byte is ignored (R257). -/
def execStop (_n : Byte) (s : State) : Result := .next { s with stopped := true }

/-- `HALT` (R256). -/
def execHalt (s : State) : Result := .next { s with halted := true }

/-- An undefined first byte: raise UnimplementedOpcode with the address the byte was fetched from, one below PC
(R117, R271; notes/assumptions/20.md). -/
def execIllegal (op : Byte) (s : State) : Result := .next (s.raise (.unimplementedOpcode (s.pc - 1) op))

/-- `DI` takes effect at once and cancels a running `EI` (R258). -/
def execDi (s : State) : Result := .next { s with ime := false, eiCountdown := 0 }

/-- `EI`: with EI_DELAY = 1 the countdown starts, unless it runs already (R259). -/
def execEi (s : State) : Result :=
  if s.params.eiDelay = 0 then .next { s with ime := true }
  else if s.eiCountdown = 0 then .next { s with eiCountdown := 2 }
  else .next s

end Sys2Proof.Machine
end

