-- ==== Sys2Proof/Decode.lean ====
section
/-! DEFINITION. The encoding (30_encoding.md): the forms of the opcode maps R112 to R116 as functions of their
operand codes, the decoder written from those maps by the fields x, y, z, p, q of R102, and the encoder written
row by row from spec/opcode_table.json. -/

namespace Sys2Proof

open Sys2Proof.Machine (word hiByte loByte)

/-! ### Operand codes (R104 to R109) -/

/-- The 8-bit operand code of R104: code 6 is the memory byte at HL, which is no register. -/
def Reg8.ofCode (i : Nat) : Option Reg8 :=
  match i with
  | 0 => some .B
  | 1 => some .C
  | 2 => some .D
  | 3 => some .E
  | 4 => some .H
  | 5 => some .L
  | 6 => none
  | _ => some .A

/-- The pair code `rr` of R105. -/
def Pair.ofCode (p : Nat) : Pair :=
  match p with
  | 0 => .BC
  | 1 => .DE
  | 2 => .HL
  | _ => .SP

/-- The pair code `qq` of R106. -/
def StackPair.ofCode (p : Nat) : StackPair :=
  match p with
  | 0 => .BC
  | 1 => .DE
  | 2 => .HL
  | _ => .AF

/-- The condition code of R107. -/
def Cond.ofCode (cc : Nat) : Cond :=
  match cc with
  | 0 => .nz
  | 1 => .z
  | 2 => .nc
  | _ => .c

/-- The ALU operation code of R108. -/
def AluOp.ofCode (y : Nat) : AluOp :=
  match y with
  | 0 => .add
  | 1 => .adc
  | 2 => .sub
  | 3 => .sbc
  | 4 => .and
  | 5 => .xor
  | 6 => .or
  | _ => .cp

/-- The rotate and shift operation code of R109. -/
def RotOp.ofCode (y : Nat) : RotOp :=
  match y with
  | 0 => .rlc
  | 1 => .rrc
  | 2 => .rl
  | 3 => .rr
  | 4 => .sla
  | 5 => .sra
  | 6 => .swap
  | _ => .srl

/-- The three-bit codes of R110. -/
def Oct.ofCode (y : Nat) : Oct :=
  match y with
  | 0 => .o0
  | 1 => .o1
  | 2 => .o2
  | 3 => .o3
  | 4 => .o4
  | 5 => .o5
  | 6 => .o6
  | _ => .o7

/-! ### Forms: the instruction of each opcode-map entry, by its operands -/

/-- `LD r,r'` (R113, R130): destination, source. -/
def Forms.ldRegReg (d : Reg8) (r : Reg8) : Instr :=
  match d, r with
  | .B, .B => .ld_B_B
  | .B, .C => .ld_B_C
  | .B, .D => .ld_B_D
  | .B, .E => .ld_B_E
  | .B, .H => .ld_B_H
  | .B, .L => .ld_B_L
  | .B, .A => .ld_B_A
  | .C, .B => .ld_C_B
  | .C, .C => .ld_C_C
  | .C, .D => .ld_C_D
  | .C, .E => .ld_C_E
  | .C, .H => .ld_C_H
  | .C, .L => .ld_C_L
  | .C, .A => .ld_C_A
  | .D, .B => .ld_D_B
  | .D, .C => .ld_D_C
  | .D, .D => .ld_D_D
  | .D, .E => .ld_D_E
  | .D, .H => .ld_D_H
  | .D, .L => .ld_D_L
  | .D, .A => .ld_D_A
  | .E, .B => .ld_E_B
  | .E, .C => .ld_E_C
  | .E, .D => .ld_E_D
  | .E, .E => .ld_E_E
  | .E, .H => .ld_E_H
  | .E, .L => .ld_E_L
  | .E, .A => .ld_E_A
  | .H, .B => .ld_H_B
  | .H, .C => .ld_H_C
  | .H, .D => .ld_H_D
  | .H, .E => .ld_H_E
  | .H, .H => .ld_H_H
  | .H, .L => .ld_H_L
  | .H, .A => .ld_H_A
  | .L, .B => .ld_L_B
  | .L, .C => .ld_L_C
  | .L, .D => .ld_L_D
  | .L, .E => .ld_L_E
  | .L, .H => .ld_L_H
  | .L, .L => .ld_L_L
  | .L, .A => .ld_L_A
  | .A, .B => .ld_A_B
  | .A, .C => .ld_A_C
  | .A, .D => .ld_A_D
  | .A, .E => .ld_A_E
  | .A, .H => .ld_A_H
  | .A, .L => .ld_A_L
  | .A, .A => .ld_A_A

/-- `LD r,n` (R112, R131). -/
def Forms.ldRegImm (d : Reg8) (n : Byte) : Instr :=
  match d with
  | .B => .ld_B_n n
  | .C => .ld_C_n n
  | .D => .ld_D_n n
  | .E => .ld_E_n n
  | .H => .ld_H_n n
  | .L => .ld_L_n n
  | .A => .ld_A_n n

/-- `LD r,(HL)` (R113, R132). -/
def Forms.ldRegMem (d : Reg8) : Instr :=
  match d with
  | .B => .ld_B_mHL
  | .C => .ld_C_mHL
  | .D => .ld_D_mHL
  | .E => .ld_E_mHL
  | .H => .ld_H_mHL
  | .L => .ld_L_mHL
  | .A => .ld_A_mHL

/-- `LD (HL),r` (R113, R133). -/
def Forms.ldMemReg (r : Reg8) : Instr :=
  match r with
  | .B => .ld_mHL_B
  | .C => .ld_mHL_C
  | .D => .ld_mHL_D
  | .E => .ld_mHL_E
  | .H => .ld_mHL_H
  | .L => .ld_mHL_L
  | .A => .ld_mHL_A

/-- `LD rr,nn` (R112, R151). -/
def Forms.ldPairImm (p : Pair) (nn : Word) : Instr :=
  match p with
  | .BC => .ld_BC_nn nn
  | .DE => .ld_DE_nn nn
  | .HL => .ld_HL_nn nn
  | .SP => .ld_SP_nn nn

/-- `PUSH qq` (R115, R154). -/
def Forms.push (q : StackPair) : Instr :=
  match q with
  | .BC => .push_BC
  | .DE => .push_DE
  | .HL => .push_HL
  | .AF => .push_AF

/-- `POP qq` (R115, R155). -/
def Forms.pop (q : StackPair) : Instr :=
  match q with
  | .BC => .pop_BC
  | .DE => .pop_DE
  | .HL => .pop_HL
  | .AF => .pop_AF

/-- `alu[y] A,r` (R114, R163). -/
def Forms.aluReg (op : AluOp) (r : Reg8) : Instr :=
  match op, r with
  | .add, .B => .add_A_B
  | .add, .C => .add_A_C
  | .add, .D => .add_A_D
  | .add, .E => .add_A_E
  | .add, .H => .add_A_H
  | .add, .L => .add_A_L
  | .add, .A => .add_A_A
  | .adc, .B => .adc_A_B
  | .adc, .C => .adc_A_C
  | .adc, .D => .adc_A_D
  | .adc, .E => .adc_A_E
  | .adc, .H => .adc_A_H
  | .adc, .L => .adc_A_L
  | .adc, .A => .adc_A_A
  | .sub, .B => .sub_A_B
  | .sub, .C => .sub_A_C
  | .sub, .D => .sub_A_D
  | .sub, .E => .sub_A_E
  | .sub, .H => .sub_A_H
  | .sub, .L => .sub_A_L
  | .sub, .A => .sub_A_A
  | .sbc, .B => .sbc_A_B
  | .sbc, .C => .sbc_A_C
  | .sbc, .D => .sbc_A_D
  | .sbc, .E => .sbc_A_E
  | .sbc, .H => .sbc_A_H
  | .sbc, .L => .sbc_A_L
  | .sbc, .A => .sbc_A_A
  | .and, .B => .and_A_B
  | .and, .C => .and_A_C
  | .and, .D => .and_A_D
  | .and, .E => .and_A_E
  | .and, .H => .and_A_H
  | .and, .L => .and_A_L
  | .and, .A => .and_A_A
  | .xor, .B => .xor_A_B
  | .xor, .C => .xor_A_C
  | .xor, .D => .xor_A_D
  | .xor, .E => .xor_A_E
  | .xor, .H => .xor_A_H
  | .xor, .L => .xor_A_L
  | .xor, .A => .xor_A_A
  | .or, .B => .or_A_B
  | .or, .C => .or_A_C
  | .or, .D => .or_A_D
  | .or, .E => .or_A_E
  | .or, .H => .or_A_H
  | .or, .L => .or_A_L
  | .or, .A => .or_A_A
  | .cp, .B => .cp_A_B
  | .cp, .C => .cp_A_C
  | .cp, .D => .cp_A_D
  | .cp, .E => .cp_A_E
  | .cp, .H => .cp_A_H
  | .cp, .L => .cp_A_L
  | .cp, .A => .cp_A_A

/-- `alu[y] A,(HL)` (R114, R163). -/
def Forms.aluMem (op : AluOp) : Instr :=
  match op with
  | .add => .add_A_mHL
  | .adc => .adc_A_mHL
  | .sub => .sub_A_mHL
  | .sbc => .sbc_A_mHL
  | .and => .and_A_mHL
  | .xor => .xor_A_mHL
  | .or => .or_A_mHL
  | .cp => .cp_A_mHL

/-- `alu[y] A,n` (R115, R163). -/
def Forms.aluImm (op : AluOp) (n : Byte) : Instr :=
  match op with
  | .add => .add_A_n n
  | .adc => .adc_A_n n
  | .sub => .sub_A_n n
  | .sbc => .sbc_A_n n
  | .and => .and_A_n n
  | .xor => .xor_A_n n
  | .or => .or_A_n n
  | .cp => .cp_A_n n

/-- `INC r` (R112, R188). -/
def Forms.incReg (r : Reg8) : Instr :=
  match r with
  | .B => .inc_B
  | .C => .inc_C
  | .D => .inc_D
  | .E => .inc_E
  | .H => .inc_H
  | .L => .inc_L
  | .A => .inc_A

/-- `DEC r` (R112, R190). -/
def Forms.decReg (r : Reg8) : Instr :=
  match r with
  | .B => .dec_B
  | .C => .dec_C
  | .D => .dec_D
  | .E => .dec_E
  | .H => .dec_H
  | .L => .dec_L
  | .A => .dec_A

/-- `ADD HL,rr` (R112, R200). -/
def Forms.addHlPair (p : Pair) : Instr :=
  match p with
  | .BC => .add_HL_BC
  | .DE => .add_HL_DE
  | .HL => .add_HL_HL
  | .SP => .add_HL_SP

/-- `INC rr` (R112, R201). -/
def Forms.incPair (p : Pair) : Instr :=
  match p with
  | .BC => .inc_BC
  | .DE => .inc_DE
  | .HL => .inc_HL
  | .SP => .inc_SP

/-- `DEC rr` (R112, R202). -/
def Forms.decPair (p : Pair) : Instr :=
  match p with
  | .BC => .dec_BC
  | .DE => .dec_DE
  | .HL => .dec_HL
  | .SP => .dec_SP

/-- `JP cc,nn` (R115, R242). -/
def Forms.jpCond (cc : Cond) (nn : Word) : Instr :=
  match cc with
  | .nz => .jp_NZ_nn nn
  | .z => .jp_Z_nn nn
  | .nc => .jp_NC_nn nn
  | .c => .jp_C_nn nn

/-- `JR cc,e` (R112, R245). -/
def Forms.jrCond (cc : Cond) (e : Byte) : Instr :=
  match cc with
  | .nz => .jr_NZ_e e
  | .z => .jr_Z_e e
  | .nc => .jr_NC_e e
  | .c => .jr_C_e e

/-- `CALL cc,nn` (R115, R247). -/
def Forms.callCond (cc : Cond) (nn : Word) : Instr :=
  match cc with
  | .nz => .call_NZ_nn nn
  | .z => .call_Z_nn nn
  | .nc => .call_NC_nn nn
  | .c => .call_C_nn nn

/-- `RET cc` (R115, R249). -/
def Forms.retCond (cc : Cond) : Instr :=
  match cc with
  | .nz => .ret_NZ
  | .z => .ret_Z
  | .nc => .ret_NC
  | .c => .ret_C

/-- `RST t`, `t = 8 * y` (R115, R251). -/
def Forms.rst (y : Oct) : Instr :=
  match y with
  | .o0 => .rst_00
  | .o1 => .rst_08
  | .o2 => .rst_10
  | .o3 => .rst_18
  | .o4 => .rst_20
  | .o5 => .rst_28
  | .o6 => .rst_30
  | .o7 => .rst_38

/-- CB-prefixed rotates and shifts of a register (R116, R214 to R228). -/
def Forms.rotReg (op : RotOp) (r : Reg8) : Instr :=
  match op, r with
  | .rlc, .B => .rlc_B
  | .rlc, .C => .rlc_C
  | .rlc, .D => .rlc_D
  | .rlc, .E => .rlc_E
  | .rlc, .H => .rlc_H
  | .rlc, .L => .rlc_L
  | .rlc, .A => .rlc_A
  | .rrc, .B => .rrc_B
  | .rrc, .C => .rrc_C
  | .rrc, .D => .rrc_D
  | .rrc, .E => .rrc_E
  | .rrc, .H => .rrc_H
  | .rrc, .L => .rrc_L
  | .rrc, .A => .rrc_A
  | .rl, .B => .rl_B
  | .rl, .C => .rl_C
  | .rl, .D => .rl_D
  | .rl, .E => .rl_E
  | .rl, .H => .rl_H
  | .rl, .L => .rl_L
  | .rl, .A => .rl_A
  | .rr, .B => .rr_B
  | .rr, .C => .rr_C
  | .rr, .D => .rr_D
  | .rr, .E => .rr_E
  | .rr, .H => .rr_H
  | .rr, .L => .rr_L
  | .rr, .A => .rr_A
  | .sla, .B => .sla_B
  | .sla, .C => .sla_C
  | .sla, .D => .sla_D
  | .sla, .E => .sla_E
  | .sla, .H => .sla_H
  | .sla, .L => .sla_L
  | .sla, .A => .sla_A
  | .sra, .B => .sra_B
  | .sra, .C => .sra_C
  | .sra, .D => .sra_D
  | .sra, .E => .sra_E
  | .sra, .H => .sra_H
  | .sra, .L => .sra_L
  | .sra, .A => .sra_A
  | .swap, .B => .swap_B
  | .swap, .C => .swap_C
  | .swap, .D => .swap_D
  | .swap, .E => .swap_E
  | .swap, .H => .swap_H
  | .swap, .L => .swap_L
  | .swap, .A => .swap_A
  | .srl, .B => .srl_B
  | .srl, .C => .srl_C
  | .srl, .D => .srl_D
  | .srl, .E => .srl_E
  | .srl, .H => .srl_H
  | .srl, .L => .srl_L
  | .srl, .A => .srl_A

/-- CB-prefixed rotates and shifts of the byte at HL (R116, R215 to R229). -/
def Forms.rotMem (op : RotOp) : Instr :=
  match op with
  | .rlc => .rlc_mHL
  | .rrc => .rrc_mHL
  | .rl => .rl_mHL
  | .rr => .rr_mHL
  | .sla => .sla_mHL
  | .sra => .sra_mHL
  | .swap => .swap_mHL
  | .srl => .srl_mHL

/-- `BIT b,r` (R116, R230). -/
def Forms.bitReg (b : Oct) (r : Reg8) : Instr :=
  match b, r with
  | .o0, .B => .bit_0_B
  | .o0, .C => .bit_0_C
  | .o0, .D => .bit_0_D
  | .o0, .E => .bit_0_E
  | .o0, .H => .bit_0_H
  | .o0, .L => .bit_0_L
  | .o0, .A => .bit_0_A
  | .o1, .B => .bit_1_B
  | .o1, .C => .bit_1_C
  | .o1, .D => .bit_1_D
  | .o1, .E => .bit_1_E
  | .o1, .H => .bit_1_H
  | .o1, .L => .bit_1_L
  | .o1, .A => .bit_1_A
  | .o2, .B => .bit_2_B
  | .o2, .C => .bit_2_C
  | .o2, .D => .bit_2_D
  | .o2, .E => .bit_2_E
  | .o2, .H => .bit_2_H
  | .o2, .L => .bit_2_L
  | .o2, .A => .bit_2_A
  | .o3, .B => .bit_3_B
  | .o3, .C => .bit_3_C
  | .o3, .D => .bit_3_D
  | .o3, .E => .bit_3_E
  | .o3, .H => .bit_3_H
  | .o3, .L => .bit_3_L
  | .o3, .A => .bit_3_A
  | .o4, .B => .bit_4_B
  | .o4, .C => .bit_4_C
  | .o4, .D => .bit_4_D
  | .o4, .E => .bit_4_E
  | .o4, .H => .bit_4_H
  | .o4, .L => .bit_4_L
  | .o4, .A => .bit_4_A
  | .o5, .B => .bit_5_B
  | .o5, .C => .bit_5_C
  | .o5, .D => .bit_5_D
  | .o5, .E => .bit_5_E
  | .o5, .H => .bit_5_H
  | .o5, .L => .bit_5_L
  | .o5, .A => .bit_5_A
  | .o6, .B => .bit_6_B
  | .o6, .C => .bit_6_C
  | .o6, .D => .bit_6_D
  | .o6, .E => .bit_6_E
  | .o6, .H => .bit_6_H
  | .o6, .L => .bit_6_L
  | .o6, .A => .bit_6_A
  | .o7, .B => .bit_7_B
  | .o7, .C => .bit_7_C
  | .o7, .D => .bit_7_D
  | .o7, .E => .bit_7_E
  | .o7, .H => .bit_7_H
  | .o7, .L => .bit_7_L
  | .o7, .A => .bit_7_A

/-- `BIT b,(HL)` (R116, R231). -/
def Forms.bitMem (b : Oct) : Instr :=
  match b with
  | .o0 => .bit_0_mHL
  | .o1 => .bit_1_mHL
  | .o2 => .bit_2_mHL
  | .o3 => .bit_3_mHL
  | .o4 => .bit_4_mHL
  | .o5 => .bit_5_mHL
  | .o6 => .bit_6_mHL
  | .o7 => .bit_7_mHL

/-- `RES b,r` (R116, R232). -/
def Forms.resReg (b : Oct) (r : Reg8) : Instr :=
  match b, r with
  | .o0, .B => .res_0_B
  | .o0, .C => .res_0_C
  | .o0, .D => .res_0_D
  | .o0, .E => .res_0_E
  | .o0, .H => .res_0_H
  | .o0, .L => .res_0_L
  | .o0, .A => .res_0_A
  | .o1, .B => .res_1_B
  | .o1, .C => .res_1_C
  | .o1, .D => .res_1_D
  | .o1, .E => .res_1_E
  | .o1, .H => .res_1_H
  | .o1, .L => .res_1_L
  | .o1, .A => .res_1_A
  | .o2, .B => .res_2_B
  | .o2, .C => .res_2_C
  | .o2, .D => .res_2_D
  | .o2, .E => .res_2_E
  | .o2, .H => .res_2_H
  | .o2, .L => .res_2_L
  | .o2, .A => .res_2_A
  | .o3, .B => .res_3_B
  | .o3, .C => .res_3_C
  | .o3, .D => .res_3_D
  | .o3, .E => .res_3_E
  | .o3, .H => .res_3_H
  | .o3, .L => .res_3_L
  | .o3, .A => .res_3_A
  | .o4, .B => .res_4_B
  | .o4, .C => .res_4_C
  | .o4, .D => .res_4_D
  | .o4, .E => .res_4_E
  | .o4, .H => .res_4_H
  | .o4, .L => .res_4_L
  | .o4, .A => .res_4_A
  | .o5, .B => .res_5_B
  | .o5, .C => .res_5_C
  | .o5, .D => .res_5_D
  | .o5, .E => .res_5_E
  | .o5, .H => .res_5_H
  | .o5, .L => .res_5_L
  | .o5, .A => .res_5_A
  | .o6, .B => .res_6_B
  | .o6, .C => .res_6_C
  | .o6, .D => .res_6_D
  | .o6, .E => .res_6_E
  | .o6, .H => .res_6_H
  | .o6, .L => .res_6_L
  | .o6, .A => .res_6_A
  | .o7, .B => .res_7_B
  | .o7, .C => .res_7_C
  | .o7, .D => .res_7_D
  | .o7, .E => .res_7_E
  | .o7, .H => .res_7_H
  | .o7, .L => .res_7_L
  | .o7, .A => .res_7_A

/-- `RES b,(HL)` (R116, R233). -/
def Forms.resMem (b : Oct) : Instr :=
  match b with
  | .o0 => .res_0_mHL
  | .o1 => .res_1_mHL
  | .o2 => .res_2_mHL
  | .o3 => .res_3_mHL
  | .o4 => .res_4_mHL
  | .o5 => .res_5_mHL
  | .o6 => .res_6_mHL
  | .o7 => .res_7_mHL

/-- `SET b,r` (R116, R234). -/
def Forms.setReg (b : Oct) (r : Reg8) : Instr :=
  match b, r with
  | .o0, .B => .set_0_B
  | .o0, .C => .set_0_C
  | .o0, .D => .set_0_D
  | .o0, .E => .set_0_E
  | .o0, .H => .set_0_H
  | .o0, .L => .set_0_L
  | .o0, .A => .set_0_A
  | .o1, .B => .set_1_B
  | .o1, .C => .set_1_C
  | .o1, .D => .set_1_D
  | .o1, .E => .set_1_E
  | .o1, .H => .set_1_H
  | .o1, .L => .set_1_L
  | .o1, .A => .set_1_A
  | .o2, .B => .set_2_B
  | .o2, .C => .set_2_C
  | .o2, .D => .set_2_D
  | .o2, .E => .set_2_E
  | .o2, .H => .set_2_H
  | .o2, .L => .set_2_L
  | .o2, .A => .set_2_A
  | .o3, .B => .set_3_B
  | .o3, .C => .set_3_C
  | .o3, .D => .set_3_D
  | .o3, .E => .set_3_E
  | .o3, .H => .set_3_H
  | .o3, .L => .set_3_L
  | .o3, .A => .set_3_A
  | .o4, .B => .set_4_B
  | .o4, .C => .set_4_C
  | .o4, .D => .set_4_D
  | .o4, .E => .set_4_E
  | .o4, .H => .set_4_H
  | .o4, .L => .set_4_L
  | .o4, .A => .set_4_A
  | .o5, .B => .set_5_B
  | .o5, .C => .set_5_C
  | .o5, .D => .set_5_D
  | .o5, .E => .set_5_E
  | .o5, .H => .set_5_H
  | .o5, .L => .set_5_L
  | .o5, .A => .set_5_A
  | .o6, .B => .set_6_B
  | .o6, .C => .set_6_C
  | .o6, .D => .set_6_D
  | .o6, .E => .set_6_E
  | .o6, .H => .set_6_H
  | .o6, .L => .set_6_L
  | .o6, .A => .set_6_A
  | .o7, .B => .set_7_B
  | .o7, .C => .set_7_C
  | .o7, .D => .set_7_D
  | .o7, .E => .set_7_E
  | .o7, .H => .set_7_H
  | .o7, .L => .set_7_L
  | .o7, .A => .set_7_A

/-- `SET b,(HL)` (R116, R235). -/
def Forms.setMem (b : Oct) : Instr :=
  match b with
  | .o0 => .set_0_mHL
  | .o1 => .set_1_mHL
  | .o2 => .set_2_mHL
  | .o3 => .set_3_mHL
  | .o4 => .set_4_mHL
  | .o5 => .set_5_mHL
  | .o6 => .set_6_mHL
  | .o7 => .set_7_mHL

/-! ### Lengths (R101) -/

/-- The number of operand bytes that follow the opcode byte `op`, by the format column of R112 to R115. -/
def operandBytes (op : Byte) : Nat :=
  let x := op.toNat / 64
  let y := op.toNat / 8 % 8
  let z := op.toNat % 8
  match x with
  | 0 =>
    match z with
    | 0 => if y = 0 then 0 else if y = 1 then 2 else 1
    | 1 => if y % 2 = 0 then 2 else 0
    | 6 => 1
    | _ => 0
  | 1 => 0
  | 2 => 0
  | _ =>
    match z with
    | 0 => if 4 ≤ y then 1 else 0
    | 2 => if y < 4 then 2 else if y = 5 then 2 else if y = 7 then 2 else 0
    | 3 => if y = 0 then 2 else 0
    | 4 => if y < 4 then 2 else 0
    | 5 => if y = 1 then 2 else 0
    | 6 => 1
    | _ => 0

/-- The byte that selects the second opcode table (R103). -/
def cbByte : Byte := 0xCB

/-- The length in bytes of the instruction that begins with `op` (R101). -/
def instrLength (op : Byte) : Nat :=
  if op = cbByte then 2 else 1 + operandBytes op

/-! ### The decoder (R100, R112 to R117) -/

/-- Quadrant x = 0 (R112). `b1` and `b2` are the bytes after the opcode. -/
def decodeX0 (y z : Nat) (b1 b2 : Byte) : Instr :=
  match z with
  | 0 =>
    match y with
    | 0 => .nop
    | 1 => .ld_mnn_SP (word b2 b1)
    | 2 => .stop b1
    | 3 => .jr_e b1
    | _ => Forms.jrCond (Cond.ofCode (y - 4)) b1
  | 1 =>
    if y % 2 = 0 then Forms.ldPairImm (Pair.ofCode (y / 2)) (word b2 b1)
    else Forms.addHlPair (Pair.ofCode (y / 2))
  | 2 =>
    match y with
    | 0 => .ld_mBC_A
    | 1 => .ld_A_mBC
    | 2 => .ld_mDE_A
    | 3 => .ld_A_mDE
    | 4 => .ld_mHLinc_A
    | 5 => .ld_A_mHLinc
    | 6 => .ld_mHLdec_A
    | _ => .ld_A_mHLdec
  | 3 =>
    if y % 2 = 0 then Forms.incPair (Pair.ofCode (y / 2)) else Forms.decPair (Pair.ofCode (y / 2))
  | 4 =>
    match Reg8.ofCode y with
    | some r => Forms.incReg r
    | none => .inc_mHL
  | 5 =>
    match Reg8.ofCode y with
    | some r => Forms.decReg r
    | none => .dec_mHL
  | 6 =>
    match Reg8.ofCode y with
    | some r => Forms.ldRegImm r b1
    | none => .ld_mHL_n b1
  | _ =>
    match y with
    | 0 => .rlca
    | 1 => .rrca
    | 2 => .rla
    | 3 => .rra
    | 4 => .daa
    | 5 => .cpl
    | 6 => .scf
    | _ => .ccf

/-- Quadrant x = 1 (R113). -/
def decodeX1 (y z : Nat) : Instr :=
  match Reg8.ofCode y, Reg8.ofCode z with
  | some d, some r => Forms.ldRegReg d r
  | some d, none => Forms.ldRegMem d
  | none, some r => Forms.ldMemReg r
  | none, none => .halt

/-- Quadrant x = 2 (R114). -/
def decodeX2 (y z : Nat) : Instr :=
  match Reg8.ofCode z with
  | some r => Forms.aluReg (AluOp.ofCode y) r
  | none => Forms.aluMem (AluOp.ofCode y)

/-- Quadrant x = 3 (R115); a selection the map calls undefined is `illegal` (R117). -/
def decodeX3 (op : Byte) (y z : Nat) (b1 b2 : Byte) : Instr :=
  match z with
  | 0 =>
    match y with
    | 4 => .ldh_mn_A b1
    | 5 => .add_SP_e b1
    | 6 => .ldh_A_mn b1
    | 7 => .ld_HL_SPe b1
    | _ => Forms.retCond (Cond.ofCode y)
  | 1 =>
    if y % 2 = 0 then Forms.pop (StackPair.ofCode (y / 2))
    else
      match y with
      | 1 => .ret
      | 3 => .reti
      | 5 => .jp_HL
      | _ => .ld_SP_HL
  | 2 =>
    match y with
    | 4 => .ldh_mC_A
    | 5 => .ld_mnn_A (word b2 b1)
    | 6 => .ldh_A_mC
    | 7 => .ld_A_mnn (word b2 b1)
    | _ => Forms.jpCond (Cond.ofCode y) (word b2 b1)
  | 3 =>
    match y with
    | 0 => .jp_nn (word b2 b1)
    | 6 => .di
    | 7 => .ei
    | _ => .illegal op
  | 4 => if y < 4 then Forms.callCond (Cond.ofCode y) (word b2 b1) else .illegal op
  | 5 =>
    if y % 2 = 0 then Forms.push (StackPair.ofCode (y / 2))
    else if y = 1 then .call_nn (word b2 b1)
    else .illegal op
  | 6 => Forms.aluImm (AluOp.ofCode y) b1
  | _ => Forms.rst (Oct.ofCode y)

/-- The instruction of first byte `op` (not 0xCB) with the operand bytes `b1`, `b2`; a byte beyond the
instruction's length plays no part. -/
def decodeMain (op b1 b2 : Byte) : Instr :=
  let y := op.toNat / 8 % 8
  let z := op.toNat % 8
  match op.toNat / 64 with
  | 0 => decodeX0 y z b1 b2
  | 1 => decodeX1 y z
  | 2 => decodeX2 y z
  | _ => decodeX3 op y z b1 b2

/-- The CB-prefixed instruction of second byte `op2` (R116). -/
def decodeCb (op2 : Byte) : Instr :=
  let y := op2.toNat / 8 % 8
  match op2.toNat / 64, Reg8.ofCode (op2.toNat % 8) with
  | 0, some r => Forms.rotReg (RotOp.ofCode y) r
  | 0, none => Forms.rotMem (RotOp.ofCode y)
  | 1, some r => Forms.bitReg (Oct.ofCode y) r
  | 1, none => Forms.bitMem (Oct.ofCode y)
  | 2, some r => Forms.resReg (Oct.ofCode y) r
  | 2, none => Forms.resMem (Oct.ofCode y)
  | _, some r => Forms.setReg (Oct.ofCode y) r
  | _, none => Forms.setMem (Oct.ofCode y)

/-- Why a byte string is no instruction: it ends before the instruction does. Every complete byte string
decodes, since an undefined first byte is the instruction `illegal` (R117). -/
inductive DecodeError where
  | noOpcode
  | missingByte (op : Byte)
  deriving DecidableEq, Repr

/-- Decode one instruction from the front of a byte string, and give the bytes after it (R100, R101). -/
def decode (bytes : List Byte) : Except DecodeError (Instr × List Byte) :=
  match bytes with
  | [] => .error .noOpcode
  | op :: rest =>
    if op = cbByte then
      match rest with
      | op2 :: more => .ok (decodeCb op2, more)
      | [] => .error (.missingByte op)
    else
      match operandBytes op, rest with
      | 0, more => .ok (decodeMain op 0 0, more)
      | 1, b1 :: more => .ok (decodeMain op b1 0, more)
      | 2, b1 :: b2 :: more => .ok (decodeMain op b1 b2, more)
      | _, _ => .error (.missingByte op)

/-! ### The encoder, row by row from spec/opcode_table.json -/

/-- The bytes of an instruction, first byte first; a 16-bit immediate is little-endian (R51, R101). -/
def encode : Instr → List Byte
  | .nop => [0x00]
  | .ld_BC_nn nn => [0x01, loByte nn, hiByte nn]
  | .ld_mBC_A => [0x02]
  | .inc_BC => [0x03]
  | .inc_B => [0x04]
  | .dec_B => [0x05]
  | .ld_B_n n => [0x06, n]
  | .rlca => [0x07]
  | .ld_mnn_SP nn => [0x08, loByte nn, hiByte nn]
  | .add_HL_BC => [0x09]
  | .ld_A_mBC => [0x0A]
  | .dec_BC => [0x0B]
  | .inc_C => [0x0C]
  | .dec_C => [0x0D]
  | .ld_C_n n => [0x0E, n]
  | .rrca => [0x0F]
  | .stop n => [0x10, n]
  | .ld_DE_nn nn => [0x11, loByte nn, hiByte nn]
  | .ld_mDE_A => [0x12]
  | .inc_DE => [0x13]
  | .inc_D => [0x14]
  | .dec_D => [0x15]
  | .ld_D_n n => [0x16, n]
  | .rla => [0x17]
  | .jr_e e => [0x18, e]
  | .add_HL_DE => [0x19]
  | .ld_A_mDE => [0x1A]
  | .dec_DE => [0x1B]
  | .inc_E => [0x1C]
  | .dec_E => [0x1D]
  | .ld_E_n n => [0x1E, n]
  | .rra => [0x1F]
  | .jr_NZ_e e => [0x20, e]
  | .ld_HL_nn nn => [0x21, loByte nn, hiByte nn]
  | .ld_mHLinc_A => [0x22]
  | .inc_HL => [0x23]
  | .inc_H => [0x24]
  | .dec_H => [0x25]
  | .ld_H_n n => [0x26, n]
  | .daa => [0x27]
  | .jr_Z_e e => [0x28, e]
  | .add_HL_HL => [0x29]
  | .ld_A_mHLinc => [0x2A]
  | .dec_HL => [0x2B]
  | .inc_L => [0x2C]
  | .dec_L => [0x2D]
  | .ld_L_n n => [0x2E, n]
  | .cpl => [0x2F]
  | .jr_NC_e e => [0x30, e]
  | .ld_SP_nn nn => [0x31, loByte nn, hiByte nn]
  | .ld_mHLdec_A => [0x32]
  | .inc_SP => [0x33]
  | .inc_mHL => [0x34]
  | .dec_mHL => [0x35]
  | .ld_mHL_n n => [0x36, n]
  | .scf => [0x37]
  | .jr_C_e e => [0x38, e]
  | .add_HL_SP => [0x39]
  | .ld_A_mHLdec => [0x3A]
  | .dec_SP => [0x3B]
  | .inc_A => [0x3C]
  | .dec_A => [0x3D]
  | .ld_A_n n => [0x3E, n]
  | .ccf => [0x3F]
  | .ld_B_B => [0x40]
  | .ld_B_C => [0x41]
  | .ld_B_D => [0x42]
  | .ld_B_E => [0x43]
  | .ld_B_H => [0x44]
  | .ld_B_L => [0x45]
  | .ld_B_mHL => [0x46]
  | .ld_B_A => [0x47]
  | .ld_C_B => [0x48]
  | .ld_C_C => [0x49]
  | .ld_C_D => [0x4A]
  | .ld_C_E => [0x4B]
  | .ld_C_H => [0x4C]
  | .ld_C_L => [0x4D]
  | .ld_C_mHL => [0x4E]
  | .ld_C_A => [0x4F]
  | .ld_D_B => [0x50]
  | .ld_D_C => [0x51]
  | .ld_D_D => [0x52]
  | .ld_D_E => [0x53]
  | .ld_D_H => [0x54]
  | .ld_D_L => [0x55]
  | .ld_D_mHL => [0x56]
  | .ld_D_A => [0x57]
  | .ld_E_B => [0x58]
  | .ld_E_C => [0x59]
  | .ld_E_D => [0x5A]
  | .ld_E_E => [0x5B]
  | .ld_E_H => [0x5C]
  | .ld_E_L => [0x5D]
  | .ld_E_mHL => [0x5E]
  | .ld_E_A => [0x5F]
  | .ld_H_B => [0x60]
  | .ld_H_C => [0x61]
  | .ld_H_D => [0x62]
  | .ld_H_E => [0x63]
  | .ld_H_H => [0x64]
  | .ld_H_L => [0x65]
  | .ld_H_mHL => [0x66]
  | .ld_H_A => [0x67]
  | .ld_L_B => [0x68]
  | .ld_L_C => [0x69]
  | .ld_L_D => [0x6A]
  | .ld_L_E => [0x6B]
  | .ld_L_H => [0x6C]
  | .ld_L_L => [0x6D]
  | .ld_L_mHL => [0x6E]
  | .ld_L_A => [0x6F]
  | .ld_mHL_B => [0x70]
  | .ld_mHL_C => [0x71]
  | .ld_mHL_D => [0x72]
  | .ld_mHL_E => [0x73]
  | .ld_mHL_H => [0x74]
  | .ld_mHL_L => [0x75]
  | .halt => [0x76]
  | .ld_mHL_A => [0x77]
  | .ld_A_B => [0x78]
  | .ld_A_C => [0x79]
  | .ld_A_D => [0x7A]
  | .ld_A_E => [0x7B]
  | .ld_A_H => [0x7C]
  | .ld_A_L => [0x7D]
  | .ld_A_mHL => [0x7E]
  | .ld_A_A => [0x7F]
  | .add_A_B => [0x80]
  | .add_A_C => [0x81]
  | .add_A_D => [0x82]
  | .add_A_E => [0x83]
  | .add_A_H => [0x84]
  | .add_A_L => [0x85]
  | .add_A_mHL => [0x86]
  | .add_A_A => [0x87]
  | .adc_A_B => [0x88]
  | .adc_A_C => [0x89]
  | .adc_A_D => [0x8A]
  | .adc_A_E => [0x8B]
  | .adc_A_H => [0x8C]
  | .adc_A_L => [0x8D]
  | .adc_A_mHL => [0x8E]
  | .adc_A_A => [0x8F]
  | .sub_A_B => [0x90]
  | .sub_A_C => [0x91]
  | .sub_A_D => [0x92]
  | .sub_A_E => [0x93]
  | .sub_A_H => [0x94]
  | .sub_A_L => [0x95]
  | .sub_A_mHL => [0x96]
  | .sub_A_A => [0x97]
  | .sbc_A_B => [0x98]
  | .sbc_A_C => [0x99]
  | .sbc_A_D => [0x9A]
  | .sbc_A_E => [0x9B]
  | .sbc_A_H => [0x9C]
  | .sbc_A_L => [0x9D]
  | .sbc_A_mHL => [0x9E]
  | .sbc_A_A => [0x9F]
  | .and_A_B => [0xA0]
  | .and_A_C => [0xA1]
  | .and_A_D => [0xA2]
  | .and_A_E => [0xA3]
  | .and_A_H => [0xA4]
  | .and_A_L => [0xA5]
  | .and_A_mHL => [0xA6]
  | .and_A_A => [0xA7]
  | .xor_A_B => [0xA8]
  | .xor_A_C => [0xA9]
  | .xor_A_D => [0xAA]
  | .xor_A_E => [0xAB]
  | .xor_A_H => [0xAC]
  | .xor_A_L => [0xAD]
  | .xor_A_mHL => [0xAE]
  | .xor_A_A => [0xAF]
  | .or_A_B => [0xB0]
  | .or_A_C => [0xB1]
  | .or_A_D => [0xB2]
  | .or_A_E => [0xB3]
  | .or_A_H => [0xB4]
  | .or_A_L => [0xB5]
  | .or_A_mHL => [0xB6]
  | .or_A_A => [0xB7]
  | .cp_A_B => [0xB8]
  | .cp_A_C => [0xB9]
  | .cp_A_D => [0xBA]
  | .cp_A_E => [0xBB]
  | .cp_A_H => [0xBC]
  | .cp_A_L => [0xBD]
  | .cp_A_mHL => [0xBE]
  | .cp_A_A => [0xBF]
  | .ret_NZ => [0xC0]
  | .pop_BC => [0xC1]
  | .jp_NZ_nn nn => [0xC2, loByte nn, hiByte nn]
  | .jp_nn nn => [0xC3, loByte nn, hiByte nn]
  | .call_NZ_nn nn => [0xC4, loByte nn, hiByte nn]
  | .push_BC => [0xC5]
  | .add_A_n n => [0xC6, n]
  | .rst_00 => [0xC7]
  | .ret_Z => [0xC8]
  | .ret => [0xC9]
  | .jp_Z_nn nn => [0xCA, loByte nn, hiByte nn]
  | .call_Z_nn nn => [0xCC, loByte nn, hiByte nn]
  | .call_nn nn => [0xCD, loByte nn, hiByte nn]
  | .adc_A_n n => [0xCE, n]
  | .rst_08 => [0xCF]
  | .ret_NC => [0xD0]
  | .pop_DE => [0xD1]
  | .jp_NC_nn nn => [0xD2, loByte nn, hiByte nn]
  | .illegal op => [op]
  | .call_NC_nn nn => [0xD4, loByte nn, hiByte nn]
  | .push_DE => [0xD5]
  | .sub_A_n n => [0xD6, n]
  | .rst_10 => [0xD7]
  | .ret_C => [0xD8]
  | .reti => [0xD9]
  | .jp_C_nn nn => [0xDA, loByte nn, hiByte nn]
  | .call_C_nn nn => [0xDC, loByte nn, hiByte nn]
  | .sbc_A_n n => [0xDE, n]
  | .rst_18 => [0xDF]
  | .ldh_mn_A n => [0xE0, n]
  | .pop_HL => [0xE1]
  | .ldh_mC_A => [0xE2]
  | .push_HL => [0xE5]
  | .and_A_n n => [0xE6, n]
  | .rst_20 => [0xE7]
  | .add_SP_e e => [0xE8, e]
  | .jp_HL => [0xE9]
  | .ld_mnn_A nn => [0xEA, loByte nn, hiByte nn]
  | .xor_A_n n => [0xEE, n]
  | .rst_28 => [0xEF]
  | .ldh_A_mn n => [0xF0, n]
  | .pop_AF => [0xF1]
  | .ldh_A_mC => [0xF2]
  | .di => [0xF3]
  | .push_AF => [0xF5]
  | .or_A_n n => [0xF6, n]
  | .rst_30 => [0xF7]
  | .ld_HL_SPe e => [0xF8, e]
  | .ld_SP_HL => [0xF9]
  | .ld_A_mnn nn => [0xFA, loByte nn, hiByte nn]
  | .ei => [0xFB]
  | .cp_A_n n => [0xFE, n]
  | .rst_38 => [0xFF]
  | .rlc_B => [0xCB, 0x00]
  | .rlc_C => [0xCB, 0x01]
  | .rlc_D => [0xCB, 0x02]
  | .rlc_E => [0xCB, 0x03]
  | .rlc_H => [0xCB, 0x04]
  | .rlc_L => [0xCB, 0x05]
  | .rlc_mHL => [0xCB, 0x06]
  | .rlc_A => [0xCB, 0x07]
  | .rrc_B => [0xCB, 0x08]
  | .rrc_C => [0xCB, 0x09]
  | .rrc_D => [0xCB, 0x0A]
  | .rrc_E => [0xCB, 0x0B]
  | .rrc_H => [0xCB, 0x0C]
  | .rrc_L => [0xCB, 0x0D]
  | .rrc_mHL => [0xCB, 0x0E]
  | .rrc_A => [0xCB, 0x0F]
  | .rl_B => [0xCB, 0x10]
  | .rl_C => [0xCB, 0x11]
  | .rl_D => [0xCB, 0x12]
  | .rl_E => [0xCB, 0x13]
  | .rl_H => [0xCB, 0x14]
  | .rl_L => [0xCB, 0x15]
  | .rl_mHL => [0xCB, 0x16]
  | .rl_A => [0xCB, 0x17]
  | .rr_B => [0xCB, 0x18]
  | .rr_C => [0xCB, 0x19]
  | .rr_D => [0xCB, 0x1A]
  | .rr_E => [0xCB, 0x1B]
  | .rr_H => [0xCB, 0x1C]
  | .rr_L => [0xCB, 0x1D]
  | .rr_mHL => [0xCB, 0x1E]
  | .rr_A => [0xCB, 0x1F]
  | .sla_B => [0xCB, 0x20]
  | .sla_C => [0xCB, 0x21]
  | .sla_D => [0xCB, 0x22]
  | .sla_E => [0xCB, 0x23]
  | .sla_H => [0xCB, 0x24]
  | .sla_L => [0xCB, 0x25]
  | .sla_mHL => [0xCB, 0x26]
  | .sla_A => [0xCB, 0x27]
  | .sra_B => [0xCB, 0x28]
  | .sra_C => [0xCB, 0x29]
  | .sra_D => [0xCB, 0x2A]
  | .sra_E => [0xCB, 0x2B]
  | .sra_H => [0xCB, 0x2C]
  | .sra_L => [0xCB, 0x2D]
  | .sra_mHL => [0xCB, 0x2E]
  | .sra_A => [0xCB, 0x2F]
  | .swap_B => [0xCB, 0x30]
  | .swap_C => [0xCB, 0x31]
  | .swap_D => [0xCB, 0x32]
  | .swap_E => [0xCB, 0x33]
  | .swap_H => [0xCB, 0x34]
  | .swap_L => [0xCB, 0x35]
  | .swap_mHL => [0xCB, 0x36]
  | .swap_A => [0xCB, 0x37]
  | .srl_B => [0xCB, 0x38]
  | .srl_C => [0xCB, 0x39]
  | .srl_D => [0xCB, 0x3A]
  | .srl_E => [0xCB, 0x3B]
  | .srl_H => [0xCB, 0x3C]
  | .srl_L => [0xCB, 0x3D]
  | .srl_mHL => [0xCB, 0x3E]
  | .srl_A => [0xCB, 0x3F]
  | .bit_0_B => [0xCB, 0x40]
  | .bit_0_C => [0xCB, 0x41]
  | .bit_0_D => [0xCB, 0x42]
  | .bit_0_E => [0xCB, 0x43]
  | .bit_0_H => [0xCB, 0x44]
  | .bit_0_L => [0xCB, 0x45]
  | .bit_0_mHL => [0xCB, 0x46]
  | .bit_0_A => [0xCB, 0x47]
  | .bit_1_B => [0xCB, 0x48]
  | .bit_1_C => [0xCB, 0x49]
  | .bit_1_D => [0xCB, 0x4A]
  | .bit_1_E => [0xCB, 0x4B]
  | .bit_1_H => [0xCB, 0x4C]
  | .bit_1_L => [0xCB, 0x4D]
  | .bit_1_mHL => [0xCB, 0x4E]
  | .bit_1_A => [0xCB, 0x4F]
  | .bit_2_B => [0xCB, 0x50]
  | .bit_2_C => [0xCB, 0x51]
  | .bit_2_D => [0xCB, 0x52]
  | .bit_2_E => [0xCB, 0x53]
  | .bit_2_H => [0xCB, 0x54]
  | .bit_2_L => [0xCB, 0x55]
  | .bit_2_mHL => [0xCB, 0x56]
  | .bit_2_A => [0xCB, 0x57]
  | .bit_3_B => [0xCB, 0x58]
  | .bit_3_C => [0xCB, 0x59]
  | .bit_3_D => [0xCB, 0x5A]
  | .bit_3_E => [0xCB, 0x5B]
  | .bit_3_H => [0xCB, 0x5C]
  | .bit_3_L => [0xCB, 0x5D]
  | .bit_3_mHL => [0xCB, 0x5E]
  | .bit_3_A => [0xCB, 0x5F]
  | .bit_4_B => [0xCB, 0x60]
  | .bit_4_C => [0xCB, 0x61]
  | .bit_4_D => [0xCB, 0x62]
  | .bit_4_E => [0xCB, 0x63]
  | .bit_4_H => [0xCB, 0x64]
  | .bit_4_L => [0xCB, 0x65]
  | .bit_4_mHL => [0xCB, 0x66]
  | .bit_4_A => [0xCB, 0x67]
  | .bit_5_B => [0xCB, 0x68]
  | .bit_5_C => [0xCB, 0x69]
  | .bit_5_D => [0xCB, 0x6A]
  | .bit_5_E => [0xCB, 0x6B]
  | .bit_5_H => [0xCB, 0x6C]
  | .bit_5_L => [0xCB, 0x6D]
  | .bit_5_mHL => [0xCB, 0x6E]
  | .bit_5_A => [0xCB, 0x6F]
  | .bit_6_B => [0xCB, 0x70]
  | .bit_6_C => [0xCB, 0x71]
  | .bit_6_D => [0xCB, 0x72]
  | .bit_6_E => [0xCB, 0x73]
  | .bit_6_H => [0xCB, 0x74]
  | .bit_6_L => [0xCB, 0x75]
  | .bit_6_mHL => [0xCB, 0x76]
  | .bit_6_A => [0xCB, 0x77]
  | .bit_7_B => [0xCB, 0x78]
  | .bit_7_C => [0xCB, 0x79]
  | .bit_7_D => [0xCB, 0x7A]
  | .bit_7_E => [0xCB, 0x7B]
  | .bit_7_H => [0xCB, 0x7C]
  | .bit_7_L => [0xCB, 0x7D]
  | .bit_7_mHL => [0xCB, 0x7E]
  | .bit_7_A => [0xCB, 0x7F]
  | .res_0_B => [0xCB, 0x80]
  | .res_0_C => [0xCB, 0x81]
  | .res_0_D => [0xCB, 0x82]
  | .res_0_E => [0xCB, 0x83]
  | .res_0_H => [0xCB, 0x84]
  | .res_0_L => [0xCB, 0x85]
  | .res_0_mHL => [0xCB, 0x86]
  | .res_0_A => [0xCB, 0x87]
  | .res_1_B => [0xCB, 0x88]
  | .res_1_C => [0xCB, 0x89]
  | .res_1_D => [0xCB, 0x8A]
  | .res_1_E => [0xCB, 0x8B]
  | .res_1_H => [0xCB, 0x8C]
  | .res_1_L => [0xCB, 0x8D]
  | .res_1_mHL => [0xCB, 0x8E]
  | .res_1_A => [0xCB, 0x8F]
  | .res_2_B => [0xCB, 0x90]
  | .res_2_C => [0xCB, 0x91]
  | .res_2_D => [0xCB, 0x92]
  | .res_2_E => [0xCB, 0x93]
  | .res_2_H => [0xCB, 0x94]
  | .res_2_L => [0xCB, 0x95]
  | .res_2_mHL => [0xCB, 0x96]
  | .res_2_A => [0xCB, 0x97]
  | .res_3_B => [0xCB, 0x98]
  | .res_3_C => [0xCB, 0x99]
  | .res_3_D => [0xCB, 0x9A]
  | .res_3_E => [0xCB, 0x9B]
  | .res_3_H => [0xCB, 0x9C]
  | .res_3_L => [0xCB, 0x9D]
  | .res_3_mHL => [0xCB, 0x9E]
  | .res_3_A => [0xCB, 0x9F]
  | .res_4_B => [0xCB, 0xA0]
  | .res_4_C => [0xCB, 0xA1]
  | .res_4_D => [0xCB, 0xA2]
  | .res_4_E => [0xCB, 0xA3]
  | .res_4_H => [0xCB, 0xA4]
  | .res_4_L => [0xCB, 0xA5]
  | .res_4_mHL => [0xCB, 0xA6]
  | .res_4_A => [0xCB, 0xA7]
  | .res_5_B => [0xCB, 0xA8]
  | .res_5_C => [0xCB, 0xA9]
  | .res_5_D => [0xCB, 0xAA]
  | .res_5_E => [0xCB, 0xAB]
  | .res_5_H => [0xCB, 0xAC]
  | .res_5_L => [0xCB, 0xAD]
  | .res_5_mHL => [0xCB, 0xAE]
  | .res_5_A => [0xCB, 0xAF]
  | .res_6_B => [0xCB, 0xB0]
  | .res_6_C => [0xCB, 0xB1]
  | .res_6_D => [0xCB, 0xB2]
  | .res_6_E => [0xCB, 0xB3]
  | .res_6_H => [0xCB, 0xB4]
  | .res_6_L => [0xCB, 0xB5]
  | .res_6_mHL => [0xCB, 0xB6]
  | .res_6_A => [0xCB, 0xB7]
  | .res_7_B => [0xCB, 0xB8]
  | .res_7_C => [0xCB, 0xB9]
  | .res_7_D => [0xCB, 0xBA]
  | .res_7_E => [0xCB, 0xBB]
  | .res_7_H => [0xCB, 0xBC]
  | .res_7_L => [0xCB, 0xBD]
  | .res_7_mHL => [0xCB, 0xBE]
  | .res_7_A => [0xCB, 0xBF]
  | .set_0_B => [0xCB, 0xC0]
  | .set_0_C => [0xCB, 0xC1]
  | .set_0_D => [0xCB, 0xC2]
  | .set_0_E => [0xCB, 0xC3]
  | .set_0_H => [0xCB, 0xC4]
  | .set_0_L => [0xCB, 0xC5]
  | .set_0_mHL => [0xCB, 0xC6]
  | .set_0_A => [0xCB, 0xC7]
  | .set_1_B => [0xCB, 0xC8]
  | .set_1_C => [0xCB, 0xC9]
  | .set_1_D => [0xCB, 0xCA]
  | .set_1_E => [0xCB, 0xCB]
  | .set_1_H => [0xCB, 0xCC]
  | .set_1_L => [0xCB, 0xCD]
  | .set_1_mHL => [0xCB, 0xCE]
  | .set_1_A => [0xCB, 0xCF]
  | .set_2_B => [0xCB, 0xD0]
  | .set_2_C => [0xCB, 0xD1]
  | .set_2_D => [0xCB, 0xD2]
  | .set_2_E => [0xCB, 0xD3]
  | .set_2_H => [0xCB, 0xD4]
  | .set_2_L => [0xCB, 0xD5]
  | .set_2_mHL => [0xCB, 0xD6]
  | .set_2_A => [0xCB, 0xD7]
  | .set_3_B => [0xCB, 0xD8]
  | .set_3_C => [0xCB, 0xD9]
  | .set_3_D => [0xCB, 0xDA]
  | .set_3_E => [0xCB, 0xDB]
  | .set_3_H => [0xCB, 0xDC]
  | .set_3_L => [0xCB, 0xDD]
  | .set_3_mHL => [0xCB, 0xDE]
  | .set_3_A => [0xCB, 0xDF]
  | .set_4_B => [0xCB, 0xE0]
  | .set_4_C => [0xCB, 0xE1]
  | .set_4_D => [0xCB, 0xE2]
  | .set_4_E => [0xCB, 0xE3]
  | .set_4_H => [0xCB, 0xE4]
  | .set_4_L => [0xCB, 0xE5]
  | .set_4_mHL => [0xCB, 0xE6]
  | .set_4_A => [0xCB, 0xE7]
  | .set_5_B => [0xCB, 0xE8]
  | .set_5_C => [0xCB, 0xE9]
  | .set_5_D => [0xCB, 0xEA]
  | .set_5_E => [0xCB, 0xEB]
  | .set_5_H => [0xCB, 0xEC]
  | .set_5_L => [0xCB, 0xED]
  | .set_5_mHL => [0xCB, 0xEE]
  | .set_5_A => [0xCB, 0xEF]
  | .set_6_B => [0xCB, 0xF0]
  | .set_6_C => [0xCB, 0xF1]
  | .set_6_D => [0xCB, 0xF2]
  | .set_6_E => [0xCB, 0xF3]
  | .set_6_H => [0xCB, 0xF4]
  | .set_6_L => [0xCB, 0xF5]
  | .set_6_mHL => [0xCB, 0xF6]
  | .set_6_A => [0xCB, 0xF7]
  | .set_7_B => [0xCB, 0xF8]
  | .set_7_C => [0xCB, 0xF9]
  | .set_7_D => [0xCB, 0xFA]
  | .set_7_E => [0xCB, 0xFB]
  | .set_7_H => [0xCB, 0xFC]
  | .set_7_L => [0xCB, 0xFD]
  | .set_7_mHL => [0xCB, 0xFE]
  | .set_7_A => [0xCB, 0xFF]

/-! ### Words as the opcode table numbers them -/

/-- The first `k` bytes of `w`, least significant first. -/
def bytesOf (k w : Nat) : List Byte :=
  match k with
  | 0 => []
  | j + 1 => BitVec.ofNat 8 w :: bytesOf j (w / 256)

/-- The three bytes (the longest instruction) of the instruction whose bits are `w`, in memory order. A row of
the table is one opcode byte in bits 7..0, or, for the CB-prefixed rows, the 16-bit key `0xCB00 + op2` of R103,
whose FIRST byte is the high half (INDEX.md); a 16-bit word whose high half is not 0xCB is read with its first
byte low. Bits above `nbits` are zero. See notes/assumptions/9.md. -/
def tableBytes (nbits w : Nat) : List Byte :=
  let v := w % 2 ^ nbits
  if nbits = 16 ∧ v / 256 = 0xCB then [cbByte, BitVec.ofNat 8 v, 0] else bytesOf 3 v

/-- The instruction the decoder reads from the opcode-table word `w` of `nbits` bits. -/
def decodeTableWord (nbits w : Nat) : Option Instr :=
  match decode (tableBytes nbits w) with
  | .ok (i, _) => some i
  | .error _ => none

end Sys2Proof
end

