-- ==== Sys2Proof/Machine/Fetch.lean ====
section
/-! DEFINITION. Instruction fetch (30_encoding.md R100): every byte through `MemRead` at the current PC, which
advances by one after each byte; and the placing of an instruction where the next fetch reads it. -/

namespace Sys2Proof.Machine

/-- The outcome of fetching bytes: the bytes with PC past them, or the state a fault left. -/
inductive Fetched where
  | bytes (bs : List Byte) (s : State)
  | raised (s : State)
  deriving DecidableEq, Repr

/-- `k` times `Fetch8()` (R100). A read that faults leaves PC past the bytes read before it (R273). -/
def fetchBytes (k : Nat) (s : State) : Fetched :=
  match k with
  | 0 => .bytes [] s
  | j + 1 =>
    match s.memRead s.pc with
    | .error r => .raised (s.raise r)
    | .ok v =>
      match fetchBytes j { s with pc := s.pc + 1 } with
      | .bytes bs t => .bytes (v :: bs) t
      | .raised t => .raised t

/-- The outcome of `FetchDecode()`. -/
inductive Decoded where
  | instr (i : Instr) (s : State)
  | raised (s : State)
  deriving DecidableEq, Repr

/-- `FetchDecode()` (R100): the opcode byte, then as many bytes as it asks for (R101). The bytes fetched always
decode (Laws/Decode.lean); were they not to, the byte would be one the table lacks (R117). -/
def State.fetchDecode (s : State) : Decoded :=
  match fetchBytes 1 s with
  | .raised t => .raised t
  | .bytes head t =>
    match head with
    | [] => .raised t
    | op :: _ =>
      match fetchBytes (instrLength op - 1) t with
      | .raised u => .raised u
      | .bytes rest u =>
        match decode (op :: rest) with
        | .ok (i, _) => .instr i u
        | .error _ => .raised (u.raise (.unimplementedOpcode s.pc op))

/-! ### Placing an instruction where the next step fetches it -/

/-- Can a byte placed at `a` be read back there: not an unsupported register, not a closed external-RAM window. -/
def State.placeable (s : State) (a : Nat) : Bool :=
  if unsupportedAddrs.contains a then false
  else if 0xA000 ≤ a ∧ a ≤ 0xBFFF then (s.extRamOffset a).isSome
  else true

/-- Put the byte `v` into the store that a read of `a` shows: the BIOS image, the cartridge image, the external
RAM or `mem`. This is the host loading a program, not a store of the CPU. -/
def State.placeByte (s : State) (a : Nat) (v : Byte) : State :=
  if a ≤ 0x7FFF then
    if s.inBios = true ∧ a < 0x0100 then
      { s with params := { s.params with bios := Memory.set s.params.bios a v } }
    else { s with params := { s.params with rom := Memory.set s.params.rom (s.romIndex a) v } }
  else if 0xA000 ≤ a ∧ a ≤ 0xBFFF then
    match s.extRamOffset a with
    | some off => { s with extRam := Memory.set s.extRam off v }
    | none => s
  else s.setCell a v

/-- Put bytes at consecutive addresses (mod 65536). -/
def placeBytes (bs : List Byte) (addr : Word) (s : State) : State :=
  match bs with
  | [] => s
  | v :: rest => placeBytes rest (addr + 1) (s.placeByte addr.toNat v)

/-- Where the placed instruction goes: PC, or working RAM at 0xC000 when a byte at PC could not be read back. -/
def State.placePc (s : State) : Word :=
  if s.placeable s.pc.toNat && s.placeable (s.pc + 1).toNat && s.placeable (s.pc + 2).toNat then s.pc
  else 0xC000

/-- `s` with the instruction bytes `bs` where the next step fetches, and every latch that would keep the next step
from fetching cleared: a fault, STOP, HALT, and the master enable when an interrupt would be dispatched. -/
def State.placeInstr (s : State) (bs : List Byte) : State :=
  let t := placeBytes bs s.placePc { s with pc := s.placePc, fault := none, stopped := false, halted := false }
  { t with ime := t.ime && !t.dispatchable }

end Sys2Proof.Machine
end

