-- ==== Sys2Proof/Machine/Timing.lean ====
section
/-! DEFINITION. Time: the cost of an instruction (70_reset_and_hazards.md R310, parameter CYCLES) and the advance
of the machine-cycle counter, the scanline counter, the divider and the timer (60_exceptions.md R285 to R288). -/

namespace Sys2Proof.Machine

/-! ### Costs (R310) -/

/-- The default cost of the instruction with first byte `op` (not 0xCB), as (taken, not taken). -/
def mainCycles (op : Nat) : Nat × Nat :=
  let y := op / 8 % 8
  let z := op % 8
  match op / 64 with
  | 0 =>
    match z with
    | 0 =>
      match y with
      | 0 => (1, 1)
      | 1 => (5, 5)
      | 2 => (1, 1)
      | 3 => (3, 3)
      | _ => (3, 2)
    | 1 => if y % 2 = 0 then (3, 3) else (2, 2)
    | 2 => (2, 2)
    | 3 => (2, 2)
    | 4 => if y = 6 then (3, 3) else (1, 1)
    | 5 => if y = 6 then (3, 3) else (1, 1)
    | 6 => if y = 6 then (3, 3) else (2, 2)
    | _ => (1, 1)
  | 1 => if y = 6 ∧ z = 6 then (1, 1) else if y = 6 ∨ z = 6 then (2, 2) else (1, 1)
  | 2 => if z = 6 then (2, 2) else (1, 1)
  | _ =>
    match z with
    | 0 =>
      match y with
      | 4 => (3, 3)
      | 5 => (4, 4)
      | 6 => (3, 3)
      | 7 => (3, 3)
      | _ => (5, 2)
    | 1 =>
      match y with
      | 1 => (4, 4)
      | 3 => (4, 4)
      | 5 => (1, 1)
      | 7 => (2, 2)
      | _ => (3, 3)
    | 2 =>
      match y with
      | 4 => (2, 2)
      | 5 => (4, 4)
      | 6 => (2, 2)
      | 7 => (4, 4)
      | _ => (4, 3)
    | 3 => if y = 0 then (4, 4) else (1, 1)
    | 4 => (6, 3)
    | 5 => if y % 2 = 0 then (4, 4) else (6, 6)
    | 6 => (2, 2)
    | _ => (4, 4)

/-- The default cost of the CB-prefixed instruction with second byte `op2`. -/
def cbCycles (op2 : Nat) : Nat × Nat :=
  if op2 % 8 = 6 then if op2 / 64 = 1 then (3, 3) else (4, 4) else (2, 2)

/-- The opcode key of an instruction (R103): its first byte, or `0xCB00 + op2`. -/
def opcodeKey (i : Instr) : Nat :=
  match encode i with
  | [] => 0
  | op :: rest => if op = cbByte then 0xCB00 + (rest.headD 0).toNat else op.toNat

/-- The default table of R310 by opcode key. -/
def defaultCycles (key : Nat) : Nat × Nat :=
  if key < 0x100 then mainCycles key else cbCycles (key % 0x100)

/-- The parameter CYCLES at an opcode key: its entry, else the default of R310 (notes/assumptions/10.md). -/
def cyclePair (table : List CycleEntry) (key : Nat) : Nat × Nat :=
  match table with
  | [] => defaultCycles key
  | entry :: rest => if entry.key = key then (entry.taken, entry.notTaken) else cyclePair rest key

/-- The condition a conditional instruction tests (R107): `y - 4` in `JR cc`, `y` in `RET cc`, `JP cc` and
`CALL cc`. -/
def conditionOf (key : Nat) : Option Cond :=
  let y := key / 8 % 8
  let z := key % 8
  if key < 0x40 then if z = 0 ∧ 4 ≤ y then some (Cond.ofCode (y - 4)) else none
  else if 0xC0 ≤ key ∧ key < 0x100 then
    if y < 4 ∧ (z = 0 ∨ z = 2 ∨ z = 4) then some (Cond.ofCode y) else none
  else none

/-- The cost `cyc` of an instruction run in state `s` (R240, R310): the "not taken" value when it is conditional
and its condition is false. -/
def cycles (i : Instr) (s : State) : Nat :=
  let key := opcodeKey i
  let costs := cyclePair s.params.cycles key
  match conditionOf key with
  | none => costs.1
  | some cc => if s.cond cc then costs.1 else costs.2

/-! ### The scanline counter (R286) -/

/-- `LY_MAX + 1`, the number of scanlines LY counts (R4, R38; a constant, notes/assumptions/16.md). -/
def lyLines : Nat := 154

/-- `LY_VBLANK` (R4). -/
def lyVblank : Nat := 144

/-- One pass of the loop of R286: LY steps, and on becoming 144 requests the vertical blank. -/
def State.lyIncrement (s : State) : State :=
  let line := (s.ly.toNat + 1) % lyLines
  let s1 := s.setCell lyAddr (BitVec.ofNat 8 line)
  if line = lyVblank then
    { s1.setCell ifAddr (s1.iflag ||| vblankMask) with vblankEvent := true }
  else s1

/-- Run `k` passes. -/
def repeatState (f : State → State) (k : Nat) (s : State) : State :=
  match k with
  | 0 => s
  | j + 1 => repeatState f j (f s)

/-- `LyAdvance(n)`: the loop of R286 makes `(lyCounter + n) / LY_PERIOD` passes and leaves the remainder
(notes/assumptions/11.md). -/
def State.lyAdvance (s : State) (n : Nat) : State :=
  let total := s.lyCounter + n
  repeatState State.lyIncrement (total / s.params.lyPeriod)
    { s with lyCounter := total % s.params.lyPeriod }

/-! ### The divider (R287) -/

/-- One pass of the loop of R287. -/
def State.divIncrement (s : State) : State := s.setCell divAddr (s.div + 1)

/-- `DivAdvance(n)` (R287). -/
def State.divAdvance (s : State) (n : Nat) : State :=
  let total := s.divCounter + n
  repeatState State.divIncrement (total / s.params.divPeriod)
    { s with divCounter := total % s.params.divPeriod }

/-! ### The timer (R288) -/

/-- The IF bit of the timer (60_exceptions.md R276). -/
def timerMask : Byte := 0x04

/-- `TIMA_PERIOD[TAC[1:0]]` (R288). -/
def State.timaPeriod (s : State) : Nat :=
  match s.tac.toNat % 4 with
  | 0 => s.params.timaPeriod.p0
  | 1 => s.params.timaPeriod.p1
  | 2 => s.params.timaPeriod.p2
  | _ => s.params.timaPeriod.p3

/-- One pass of the loop of R288: on overflow TIMA is reloaded from TMA and the timer interrupt is requested. -/
def State.timaIncrement (s : State) : State :=
  if s.tima = 0xFF then
    let s1 := s.setCell timaAddr s.tma
    s1.setCell ifAddr (s1.iflag ||| timerMask)
  else s.setCell timaAddr (s.tima + 1)

/-- `TimaAdvance(n)` (R288): nothing while TAC bit 2 is clear. -/
def State.timaAdvance (s : State) (n : Nat) : State :=
  if s.tac.getLsbD 2 = false then s
  else
    let total := s.timaCounter + n
    repeatState State.timaIncrement (total / s.timaPeriod)
      { s with timaCounter := total % s.timaPeriod }

/-! ### Tick (R285) -/

/-- `Tick(n)`. -/
def State.tick (s : State) (n : Nat) : State :=
  ((({ s with m := s.m + n } : State).lyAdvance n).divAdvance n).timaAdvance n

end Sys2Proof.Machine
end

