-- ==== Sys2Proof/Machine/Sequencer.lean ====
section
/-! DEFINITION. The parts of the machine step in their order (60_exceptions.md R270). -/

namespace Sys2Proof.Machine

/-- Step 1: the BIOS handoff, when PC has reached 0x0100 (R275). -/
def State.handoffIfDue (s : State) : State :=
  if s.inBios = true ∧ s.pc = 0x0100 then s.handoff else s

/-- An enabled and requested interrupt of the five (R256). -/
def State.wakes (s : State) : Bool := (s.ie &&& s.iflag &&& 0x1F) != 0

/-- Step 2: waking from HALT, whatever IME is (R256). -/
def State.wakeIfDue (s : State) : State :=
  if s.halted = true ∧ s.wakes = true then { s with halted := false } else s

/-- Steps 1 and 2. -/
def State.beginStep (s : State) : State := s.handoffIfDue.wakeIfDue

/-- Step 6: the EI countdown (R259). -/
def State.countEi (s : State) : State :=
  match s.eiCountdown with
  | 0 => s
  | 1 => { s with eiCountdown := 0, ime := true }
  | k + 2 => { s with eiCountdown := k + 1 }

/-- Steps 6 and 7 after an instruction: the EI countdown, then `Tick(cyc)`; neither when the instruction raised a
fault (R270, R273). -/
def State.endStep (s : State) (cyc : Nat) : State :=
  match s.fault with
  | some _ => s
  | none => s.countEi.tick cyc

/-- Run `i` with cost `cyc`, then steps 6 and 7. -/
def finishInstr (i : Instr) (s : State) : Result :=
  match exec i s with
  | .next t => .next (t.endStep (cycles i s))
  | .fault r => .fault r
  | .refused r => .refused r

/-- Steps 3 to 7, in a state that steps 1 and 2 have prepared. -/
def State.runStep (s : State) : Result :=
  if s.dispatchable = true then .next (s.dispatch.tick s.params.dispatchCycles)
  else if s.halted = true then .next (s.tick 1)
  else
    match s.fetchDecode with
    | .raised t => .next t
    | .instr i t => finishInstr i t

/-- One machine step (R270). It exists only without a fault and while not stopped: a faulted machine stays at its
fault (R272), a stopped one waits for the host (R257). (notes/assumptions/4.md, 5.md, 12.md.) -/
def State.machineStep (s : State) : Result :=
  match s.fault with
  | some r => .fault r
  | none => if s.stopped = true then .refused .waitingForHost else s.beginStep.runStep

end Sys2Proof.Machine
end

