-- ==== Sys2Proof/Machine/Step.lean ====
section
/-! DEFINITION. The one step of the machine, and the placing of an instruction where that step fetches. -/

namespace Sys2Proof.Machine

/-- The machine step of 60_exceptions.md R270 (Machine/Sequencer.lean). -/
def step (s : State) : Host.Outcome State Fault Refusal := s.machineStep

/-- `s` with the instruction of the opcode-table word `w` of `nbits` bits stored where `step` fetches next
(notes/assumptions/3.md, 9.md). -/
def State.withFetchWord (s : State) (nbits w : Nat) : State := s.placeInstr (tableBytes nbits w)

end Sys2Proof.Machine
end

