-- ==== Sys2Proof/Machine/Agent.lean ====
section
/-! DEFINITION. The host agent (60_exceptions.md R295 to R297): the moves it may make between two machine steps,
what it may read, and the frame loop that drives the steps (notes/assumptions/14.md, 17.md). -/

namespace Sys2Proof.Machine

/-- The moves of R295 that are not a machine step. -/
inductive HostMove where
  /-- `press*` or `lift*` of a button: the host chooses the byte of P1. -/
  | keypad (b : Byte)
  /-- A renderer query, a flush of external RAM, `peek_stack`, a register read or a debug dump: nothing changes. -/
  | observe
  /-- The renderer clears a dirty flag it has consumed. -/
  | clearVramDirty
  | clearLcdcDirty
  /-- The run loop consumes the vertical-blank event. -/
  | consumeVblank
  /-- Construction of a new machine with the given parameters (70_reset_and_hazards.md R300). -/
  | reset (p : Params)
  deriving DecidableEq, Repr

/-- The state after a host move; none where the move's precondition fails (R295). -/
def State.hostMove (s : State) (move : HostMove) : Option State :=
  match move with
  | .keypad b => some { s.setCell p1Addr b with stopped := false }
  | .observe => some s
  | .clearVramDirty => some { s with vramDirty := false }
  | .clearLcdcDirty => some { s with lcdcDirty := false }
  | .consumeVblank => if s.vblankEvent = true then some { s with vblankEvent := false } else none
  | .reset p => some (State.resetOf p)

/-- `MemRead(addr, 2)`: low address first, second address mod 65536 (20_memory.md R52). -/
def State.memRead16 (s : State) (addr : Word) : Except Fault Word :=
  match s.memRead addr with
  | .error r => .error r
  | .ok lo =>
    match s.memRead (addr + 1) with
    | .error r => .error r
    | .ok hi => .ok (word hi lo)

/-- `peek_stack`: `MemRead(SP, 2)` without changing the state (R292, 41_load16.md R150). -/
def State.peekStack (s : State) : Except Fault Word := s.memRead16 s.sp

/-- The events the run loop sends; they change no machine state (R295). -/
inductive HostEvent where
  | paintFrame
  | ended
  deriving DecidableEq, Repr

/-- The run loop's own variables: the `isPainting` latch and the events sent, latest first (R296). -/
structure RunLoop where
  isPainting : Bool
  events : List HostEvent
  deriving DecidableEq, Repr

/-- How a frame ends (R296, R297); `outOfFuel` is this model's bound on the number of steps. -/
inductive FrameOutcome where
  | faulted (r : Fault)
  | waitingForHost
  | ended
  | frameDone
  | outOfFuel
  deriving DecidableEq, Repr

/-- What the run loop has when a frame ends. -/
structure FrameEnd where
  outcome : FrameOutcome
  loop : RunLoop
  state : State
  deriving DecidableEq, Repr

/-- The paint request at a frame's end, suppressed while the host still paints (R296). -/
def RunLoop.requestPaint (v : RunLoop) : RunLoop :=
  if v.isPainting = true then v else { isPainting := true, events := .paintFrame :: v.events }

/-- `Frame()` with the stop address `stopPc`, for at most `fuel` steps (R296). -/
def runFrame (fuel : Nat) (stopPc : Option Word) (v : RunLoop) (s : State) : FrameEnd :=
  match fuel with
  | 0 => { outcome := .outOfFuel, loop := v, state := s }
  | k + 1 =>
    match s.fault with
    | some r => { outcome := .faulted r, loop := v, state := s }
    | none =>
      if s.stopped = true then { outcome := .waitingForHost, loop := v, state := s }
      else if stopPc = some s.pc then
        { outcome := .ended, loop := { v with events := .ended :: v.events }, state := s }
      else
        match step s with
        | .next t =>
          if t.vblankEvent = true then
            { outcome := .frameDone, loop := v.requestPaint, state := { t with vblankEvent := false } }
          else runFrame k stopPc v t
        | .fault r => { outcome := .faulted r, loop := v, state := s }
        | .refused _ => { outcome := .waitingForHost, loop := v, state := s }

end Sys2Proof.Machine
end

