-- ==== Sys2Proof/Safety.lean ====
section
/-! DEFINITION. The terms the statements are written in: when a state has a step, what bytes stand at an address,
which instruction may change what (the destination registers, the flags, SP, PC and the stored bytes of each
opcode, from the instruction rules), and the invariants of a reachable state. -/

namespace Sys2Proof

/-! ### Operand codes, from operand to number (30_encoding.md R104 to R109) -/

/-- The 8-bit operand code (R104). -/
def Reg8.code (r : Reg8) : Nat :=
  match r with
  | .B => 0
  | .C => 1
  | .D => 2
  | .E => 3
  | .H => 4
  | .L => 5
  | .A => 7

/-- The pair code `rr` (R105). -/
def Pair.code (p : Pair) : Nat :=
  match p with
  | .BC => 0
  | .DE => 1
  | .HL => 2
  | .SP => 3

/-- The pair code `qq` (R106). -/
def StackPair.code (q : StackPair) : Nat :=
  match q with
  | .BC => 0
  | .DE => 1
  | .HL => 2
  | .AF => 3

/-- The condition code (R107). -/
def Cond.code (cc : Cond) : Nat :=
  match cc with
  | .nz => 0
  | .z => 1
  | .nc => 2
  | .c => 3

/-- The accumulator operation code (R108). -/
def AluOp.code (op : AluOp) : Nat :=
  match op with
  | .add => 0
  | .adc => 1
  | .sub => 2
  | .sbc => 3
  | .and => 4
  | .xor => 5
  | .or => 6
  | .cp => 7

/-- The rotate and shift code (R109). -/
def RotOp.code (op : RotOp) : Nat :=
  match op with
  | .rlc => 0
  | .rrc => 1
  | .rl => 2
  | .rr => 3
  | .sla => 4
  | .sra => 5
  | .swap => 6
  | .srl => 7

/-- The periods are positive (R4). -/
def Params.PeriodsPositive (p : Params) : Prop :=
  0 < p.lyPeriod ∧ 0 < p.divPeriod ∧
    0 < p.timaPeriod.p0 ∧ 0 < p.timaPeriod.p1 ∧ 0 < p.timaPeriod.p2 ∧ 0 < p.timaPeriod.p3

end Sys2Proof

namespace Sys2Proof.Machine

/-! ### How an instruction is coded, and what it costs -/

/-- A number as a byte. -/
def byteOf (n : Nat) : Byte := BitVec.ofNat 8 n

/-- `i` is coded by `bytes` (the "Encoding" line of its rule) and, with the default table of R310, costs `cost`
machine cycles in every state (its "Cycles" line). -/
def CodedAs (i : Instr) (bytes : List Byte) (cost : Nat) : Prop :=
  encode i = bytes ∧ ∀ s : State, s.params.cycles = [] → cycles i s = cost

/-- The same for a conditional instruction: `taken` and `notTaken` cycles. -/
def CodedAsIf (i : Instr) (bytes : List Byte) (cc : Cond) (taken notTaken : Nat) : Prop :=
  encode i = bytes ∧
    ∀ s : State, s.params.cycles = [] → cycles i s = if s.cond cc then taken else notTaken

/-! ### When there is a step (60_exceptions.md R270) -/

/-- The CORE has a step: no fault and not stopped. -/
def State.Running (s : State) : Prop := s.fault = none ∧ s.stopped = false

/-- The next step is an instruction fetched at PC: the CORE has a step, it is not halted, the BIOS handoff is not
due, and no interrupt is dispatched. -/
def State.Fetches (s : State) : Prop :=
  s.Running ∧ s.halted = false ∧ ¬(s.inBios = true ∧ s.pc = 0x0100) ∧ s.dispatchable = false

/-- The bytes `bs` are what reads at `addr`, `addr + 1`, … give. -/
def BytesAt (s : State) (addr : Word) (bs : List Byte) : Prop :=
  match bs with
  | [] => True
  | v :: rest => s.memRead addr = .ok v ∧ BytesAt s (addr + 1) rest

/-! ### Regions (20_memory.md R54, R60, R62) -/

/-- An address whose write is a plain byte of `mem`: outside ROM and external RAM, and none of STAT, VBK, LY, DIV
(R60 step 7, R62). -/
def plainAddr (a : Nat) : Bool :=
  isMemCell a && a != statAddr && a != vbkAddr && a != lyAddr && a != divAddr

/-- A plain address that can also be read back (R56). -/
def ramAddr (a : Nat) : Bool := plainAddr a && !(unsupportedAddrs.contains a)

/-! ### Flags -/

/-- The four flags of `s`. -/
def State.FlagsAre (s : State) (z n h c : Bool) : Prop :=
  s.flagZ = z ∧ s.flagN = n ∧ s.flagH = h ∧ s.flagC = c

/-- Bits 3..0 of the flags byte are as they were. -/
def SameFlagLow (s t : State) : Prop := t.f &&& 0x0F = s.f &&& 0x0F

/-! ### What an instruction does with a byte it reads -/

/-- `i` reads the byte at `addr` and then leaves a state in the relation `post`; where that read faults, it raises
the fault and changes nothing else. -/
def ReadsThen (i : Instr) (addr : State → Word) (post : State → Byte → State → Prop) : Prop :=
  ∀ s : State,
    (∀ v, s.memRead (addr s) = .ok v → ∃ t, exec i s = .next t ∧ post s v t) ∧
    (∀ r, s.memRead (addr s) = .error r → exec i s = .next { s with fault := some r })

/-- `i` takes its operand `operand s` from a register or from its own bytes, and leaves a state in `post`. -/
def Completes (i : Instr) (operand : State → Byte) (post : State → Byte → State → Prop) : Prop :=
  ∀ s : State, ∃ t, exec i s = .next t ∧ post s (operand s) t

/-- `A` becomes `A + v + cin`, with the flags of R161; nothing else changes. -/
def SumIs (cin : State → Nat) (s : State) (v : Byte) (t : State) : Prop :=
  let sum := s.a.toNat + v.toNat + cin s
  t.a.toNat = sum % 256 ∧
  t.FlagsAre (decide (sum % 256 = 0)) false
    (decide (s.a.toNat % 16 + v.toNat % 16 + cin s > 15)) (decide (sum > 255)) ∧
  SameFlagLow s t ∧ t = { s with a := t.a, f := t.f }

/-- The flags of `A - v - cin` by R162; `A` becomes the difference where `store` is true and stays otherwise;
nothing else changes. -/
def DifferenceIs (store : Bool) (cin : State → Nat) (s : State) (v : Byte) (t : State) : Prop :=
  let diff : Int := (s.a.toNat : Int) - v.toNat - cin s
  (if store then (t.a.toNat : Int) = diff % 256 else t.a = s.a) ∧
  t.FlagsAre (decide (diff % 256 = 0)) true
    (decide (s.a.toNat % 16 < v.toNat % 16 + cin s)) (decide (diff < 0)) ∧
  SameFlagLow s t ∧ t = { s with a := t.a, f := t.f }

/-- Bit `b` of `A` becomes `f` of bit `b` of `A` and of `v`; Z is set for a zero result, N = 0, C = 0, and H is
`half` (R176, R179, R182); nothing else changes. -/
def BitwiseIs (f : Bool → Bool → Bool) (half : Bool) (s : State) (v : Byte) (t : State) : Prop :=
  (∀ b, b < 8 → t.a.getLsbD b = f (s.a.getLsbD b) (v.getLsbD b)) ∧
  t.FlagsAre (decide (t.a = 0)) false half false ∧
  SameFlagLow s t ∧ t = { s with a := t.a, f := t.f }

/-- No carry in. -/
def noCarry (_s : State) : Nat := 0

/-- The old carry flag as the carry in. -/
def oldCarry (s : State) : Nat := s.flagC.toNat

/-- The shift functions of R208 on numbers: the result byte and the new carry bit, from the byte `v` and the old
carry bit `c`. -/
def shifted (op : RotOp) (v c : Nat) : Nat × Nat :=
  match op with
  | .rlc => (v * 2 % 256 + v / 128, v / 128)
  | .rrc => (v / 2 + v % 2 * 128, v % 2)
  | .rl => (v * 2 % 256 + c, v / 128)
  | .rr => (v / 2 + c * 128, v % 2)
  | .sla => (v * 2 % 256, v / 128)
  | .sra => (v / 2 + v / 128 * 128, v % 2)
  | .swap => (v % 16 * 16 + v / 16, 0)
  | .srl => (v / 2, v % 2)

/-- The decimal adjustment of R192 on numbers: the result byte and the new carry, from the pre-adjustment value
`a` and the old flags. -/
def adjusted (a : Nat) (n h c : Bool) : Nat × Bool :=
  if n then
    ((a + 512 - (if h then 6 else 0) - (if c then 0x60 else 0)) % 256, c)
  else
    ((a + (if h || decide (a % 16 > 9) then 6 else 0) + (if c || decide (a > 0x99) then 0x60 else 0)) % 256,
      c || decide (a > 0x99))

/-! ### What an instruction may change, by its opcode (R102 fields)

The register rows name each destination register, the registers an addressing form also moves (HL in R145 to
R148) and nothing else. -/

/-- The registers of a pair. -/
def pairRegs (p : Pair) : List Reg8 :=
  match p with
  | .BC => [.B, .C]
  | .DE => [.D, .E]
  | .HL => [.H, .L]
  | .SP => []

/-- The 8-bit registers of a stack pair (F is none). -/
def stackPairRegs (q : StackPair) : List Reg8 :=
  match q with
  | .BC => [.B, .C]
  | .DE => [.D, .E]
  | .HL => [.H, .L]
  | .AF => [.A]

/-- The 8-bit registers the instruction with first byte `op` writes. -/
def mainDestRegs (op : Nat) : List Reg8 :=
  let y := op / 8 % 8
  let z := op % 8
  match op / 64 with
  | 0 =>
    match z with
    | 1 => if y % 2 = 0 then pairRegs (Pair.ofCode (y / 2)) else [.H, .L]
    | 2 =>
      match y with
      | 1 => [.A]
      | 3 => [.A]
      | 4 => [.H, .L]
      | 5 => [.A, .H, .L]
      | 6 => [.H, .L]
      | 7 => [.A, .H, .L]
      | _ => []
    | 3 => pairRegs (Pair.ofCode (y / 2))
    | 4 => (Reg8.ofCode y).toList
    | 5 => (Reg8.ofCode y).toList
    | 6 => (Reg8.ofCode y).toList
    | 7 => if y < 6 then [.A] else []
    | _ => []
  | 1 => (Reg8.ofCode y).toList
  | 2 => if y = 7 then [] else [.A]
  | _ =>
    match z with
    | 0 => if y = 6 then [.A] else if y = 7 then [.H, .L] else []
    | 1 => if y % 2 = 0 then stackPairRegs (StackPair.ofCode (y / 2)) else []
    | 2 => if 6 ≤ y then [.A] else []
    | 6 => if y = 7 then [] else [.A]
    | _ => []

/-- The 8-bit registers an instruction writes. -/
def destRegs (i : Instr) : List Reg8 :=
  let key := opcodeKey i
  if key < 0x100 then mainDestRegs key
  else if key % 0x100 / 64 = 1 then []
  else (Reg8.ofCode (key % 8)).toList

/-- Does the instruction with first byte `op` write a flag (10_state.md R23). -/
def mainWritesFlags (op : Nat) : Bool :=
  let y := op / 8 % 8
  let z := op % 8
  match op / 64 with
  | 0 => (z == 1 && y % 2 == 1) || z == 4 || z == 5 || z == 7
  | 1 => false
  | 2 => true
  | _ => (z == 0 && (y == 5 || y == 7)) || (z == 1 && y == 6) || z == 6

/-- Does an instruction write a flag (R23). -/
def writesFlags (i : Instr) : Bool :=
  let key := opcodeKey i
  if key < 0x100 then mainWritesFlags key else key % 0x100 < 0x80

/-- Does an instruction write SP (10_state.md R24). -/
def writesSp (i : Instr) : Bool :=
  let key := opcodeKey i
  let y := key / 8 % 8
  let z := key % 8
  if key < 0x40 then (z == 1 && y == 6) || (z == 3 && (y == 6 || y == 7))
  else if 0xC0 ≤ key && key < 0x100 then
    (z == 0 && (y < 4 || y == 5)) || (z == 1 && y != 5) || (z == 4 && y < 4) ||
      (z == 5 && (y % 2 == 0 || y == 1)) || z == 7
  else false

/-- Is an instruction a control transfer (45_control.md), which alone writes PC (R25). -/
def writesPc (i : Instr) : Bool :=
  let key := opcodeKey i
  let y := key / 8 % 8
  let z := key % 8
  if key < 0x40 then z == 0 && 3 ≤ y
  else if 0xC0 ≤ key && key < 0x100 then
    (z == 0 && y < 4) || (z == 1 && (y == 1 || y == 3 || y == 5)) || (z == 2 && y < 4) ||
      (z == 3 && y == 0) || (z == 4 && y < 4) || (z == 5 && y == 1) || z == 7
  else false

/-- Does an instruction write `IME` or the EI countdown: DI, EI, RETI (R26, R27). -/
def writesIme (i : Instr) : Bool :=
  match i with
  | .di => true
  | .ei => true
  | .reti => true
  | _ => false

/-- The two stack addresses of `Push16`, in the order written (R150). -/
def pushAddrs (s : State) : List Word := [s.sp - 1, s.sp - 2]

/-- The addresses stored to by the forms whose opcode alone says so: those with the memory operand at HL, RST and
PUSH. -/
def storeAddrsOf (key : Nat) (s : State) : List Word :=
  let y := key / 8 % 8
  let z := key % 8
  if key < 0x40 then
    if (z = 2 ∧ (y = 4 ∨ y = 6)) ∨ (y = 6 ∧ (z = 4 ∨ z = 5 ∨ z = 6)) then [s.hl] else []
  else if key < 0x80 then if y = 6 ∧ z ≠ 6 then [s.hl] else []
  else if key < 0xC0 then []
  else if key < 0x100 then
    if z = 7 ∨ (z = 5 ∧ y % 2 = 0) then pushAddrs s else []
  else if z = 6 ∧ key % 0x100 / 64 ≠ 1 then [s.hl] else []

/-- The addresses an instruction stores to in state `s`, in order, each by the expression its meaning uses; a call
whose condition is false, like every form that is not listed, stores nothing. -/
def storeAddrs (i : Instr) (s : State) : List Word :=
  match i with
  | .ld_mnn_A nn => [nn]
  | .ld_mnn_SP nn => [nn, nn + 1]
  | .ldh_mn_A n => [highPage n]
  | .ldh_mC_A => [highPage s.c]
  | .ld_mBC_A => [s.bc]
  | .ld_mDE_A => [s.de]
  | .call_NZ_nn _ => if s.cond .nz then pushAddrs s else []
  | .call_Z_nn _ => if s.cond .z then pushAddrs s else []
  | .call_NC_nn _ => if s.cond .nc then pushAddrs s else []
  | .call_C_nn _ => if s.cond .c then pushAddrs s else []
  | .call_nn _ => pushAddrs s
  | _ => storeAddrsOf (opcodeKey i) s

/-! ### Invariants of a reachable state -/

/-- Memory is canonical and holds only what it may: `mem` its own cells (R31), `extRam` its declared size (R35),
and VBK reads zero (R64). -/
structure State.MemInv (s : State) : Prop where
  memWf : Memory.wf s.mem
  memCells : ∀ c ∈ s.mem, isMemCell c.1 = true
  extRamWf : Memory.wf s.extRam
  extRamSize : ∀ c ∈ s.extRam, c.1 < s.params.ramSize
  vbkZero : s.cell vbkAddr = 0

/-- The low nibble of F is zero (R22). -/
def State.FlagInv (s : State) : Prop := s.f &&& 0x0F = 0

/-- The longest of the four timer periods: the bound of `timaCounter` (R41). -/
def maxTimaPeriod (p : TimaPeriods) : Nat := max (max p.p0 p.p1) (max p.p2 p.p3)

/-- LY counts 0..153 (R38) and each sub-counter stays below its period (R38, R41). -/
structure State.TimeInv (s : State) : Prop where
  ly : s.ly.toNat ≤ 153
  lyCounter : s.lyCounter < s.params.lyPeriod
  divCounter : s.divCounter < s.params.divPeriod
  timaCounter : s.timaCounter < maxTimaPeriod s.params.timaPeriod

/-- The bank registers hold only what their controller writes (R34): `None` keeps the reset values (R70), MBC1 masks
`bankLo` to five bits and has no `ramBankReg` (R71), MBC3 and MBC5 have neither `bankHi` nor `mode` (R76, R77). -/
def State.BankInv (s : State) : Prop :=
  match s.params.cartKind with
  | .none => s.mbc = { bankLo := 1, bankHi := 0, mode := 0, ramBankReg := 0, gateOpen := false }
  | .mbc1 => s.mbc.bankLo.toNat < 32 ∧ s.mbc.ramBankReg = 0
  | .mbc3 => s.mbc.bankHi = 0 ∧ s.mbc.mode = 0
  | .mbc5 => s.mbc.bankHi = 0 ∧ s.mbc.mode = 0

/-- The EI countdown is at most two, and zero when `EI_DELAY = 0` (R27). -/
def State.EiInv (s : State) : Prop :=
  s.eiCountdown ≤ 2 ∧ (s.params.eiDelay = 0 → s.eiCountdown = 0)

end Sys2Proof.Machine
end

