-- ==== Sys2Proof/Certificates/Slice0/Obligations.lean ====
section
/-! DEFINITION. The statements about the machine, for the provers. OBLIGATIONS.json gives each its rule of spec/ and
its words. In a statement about an instruction PC already stands past the instruction (10_state.md R25), and an
equation `t = { s with … }` says that nothing but the named fields differs. -/

open Sys2Proof Sys2Proof.Machine

/-! ### Encoding -/

/-- Decoding the encoding of a well-formed instruction gives it back and leaves the bytes after it. -/
def Obligations.DecodeInvertsEncode : Prop :=
  ∀ (i : Instr) (rest : List Byte), i.wellFormed = true → decode (encode i ++ rest) = .ok (i, rest)

/-- What is decoded is well-formed and was coded by exactly the bytes consumed. -/
def Obligations.EncodeInvertsDecode : Prop :=
  ∀ (bytes : List Byte) (i : Instr) (rest : List Byte), decode bytes = .ok (i, rest) →
    i.wellFormed = true ∧ encode i ++ rest = bytes

/-- The first byte gives the length (R101), and that many bytes always decode. -/
def Obligations.FirstByteGivesLength : Prop :=
  ∀ op : Byte,
    instrLength op = (if op = 0xCB then 2 else 1 + operandBytes op) ∧ instrLength op ≤ 3 ∧
    ∀ rest : List Byte, instrLength op ≤ rest.length + 1 →
      ∃ i, decode (op :: rest) = .ok (i, rest.drop (instrLength op - 1)) ∧
        (encode i).length = instrLength op

/-- Words written out from the opcode maps R112 to R116, one or more for each family. -/
def Obligations.OpcodeMapWords : Prop :=
  decode [0x41] = .ok (.ld_B_C, []) ∧
  decode [0x3E, 0x55] = .ok (.ld_A_n 0x55, []) ∧
  decode [0xEA, 0x00, 0x20] = .ok (.ld_mnn_A 0x2000, []) ∧
  decode [0x31, 0xFE, 0xFF] = .ok (.ld_SP_nn 0xFFFE, []) ∧
  decode [0xF1] = .ok (.pop_AF, []) ∧
  decode [0x8E] = .ok (.adc_A_mHL, []) ∧
  decode [0xE8, 0x02] = .ok (.add_SP_e 0x02, []) ∧
  decode [0x27] = .ok (.daa, []) ∧
  decode [0xCB, 0x37] = .ok (.swap_A, []) ∧
  decode [0xCB, 0x7E] = .ok (.bit_7_mHL, []) ∧
  decode [0x20, 0xFA] = .ok (.jr_NZ_e 0xFA, []) ∧
  decode [0xDC, 0x34, 0x12] = .ok (.call_C_nn 0x1234, []) ∧
  decode [0xEF] = .ok (.rst_28, []) ∧
  decode [0x10, 0xAB] = .ok (.stop 0xAB, []) ∧
  decode [0xD3] = .ok (.illegal 0xD3, [])

/-! ### The machine step -/

/-- When the bytes at PC are the encoding of `i` and the step fetches, the step is `exec i` with PC past the bytes;
then, unless `i` raised a fault, the EI countdown and the ticks of its cost (R270 steps 5 to 7). -/
def Obligations.StepRunsDecodedInstruction : Prop :=
  ∀ (s : State) (i : Instr), s.Fetches → i.wellFormed = true → BytesAt s s.pc (encode i) →
    let u : State := { s with pc := s.pc + BitVec.ofNat 16 (encode i).length }
    ∀ t, exec i u = .next t →
      (t.fault = none → step s = .next (t.countEi.tick (cycles i u))) ∧
      (t.fault ≠ none → step s = .next t)

/-- The interrupt dispatch (R277, R281): taken when enabled, requested and outside the BIOS. It clears IME, the EI
countdown and the request, pushes PC and goes to 0x0040; it costs `DISPATCH_CYCLES`. (Clearing IF and
the cost are the spec's decisions D5 and D28.) -/
def Obligations.VblankDispatch : Prop :=
  ∀ s : State, s.Running → s.ime = true → s.ie &&& s.iflag &&& 0x01 ≠ 0 → s.inBios = false →
    ∃ d : State, step s = .next (d.tick s.params.dispatchCycles) ∧
      d = { ((s.setCell 0xFF0F (s.iflag &&& 0xFE)).memWrite (s.sp - 1) (hiByte s.pc)).memWrite (s.sp - 2)
              (loByte s.pc) with
            sp := s.sp - 2, pc := 0x0040, ime := false, eiCountdown := 0, halted := false } ∧
      (ramAddr (s.sp - 1).toNat = true → ramAddr (s.sp - 2).toNat = true →
        d.memRead (s.sp - 1) = .ok (hiByte s.pc) ∧ d.memRead (s.sp - 2) = .ok (loByte s.pc) ∧
        (s.sp - 1 ≠ 0xFF0F → s.sp - 2 ≠ 0xFF0F → d.iflag = s.iflag &&& 0xFE) ∧
        (∀ a, a ≠ s.sp - 1 → a ≠ s.sp - 2 → a ≠ 0xFF0F → d.memRead a = s.memRead a))

/-- Where nothing is dispatched. (a) With the vertical blank not both enabled and requested, bits 1 to 4 wake HALT,
and the step runs the instruction at PC, halted or not and whatever IME is (R278). (b) While the BIOS runs the step
runs the BIOS instruction at PC (R282). (c) While HALT lasts a step is one idle cycle (R256). (d) Any of the five bits
ends HALT, whatever IME is and in the BIOS too: where the wake is not followed by a dispatch, the step is the step of
the state with `halted` cleared, and so runs the instruction at PC (R256, R282). (The spec's decisions D6, D30 and
D8.) -/
def Obligations.NoOtherDispatch : Prop :=
  ∀ s : State, s.Running →
    (∀ (i : Instr) (t : State), s.inBios = false →
      s.ie &&& s.iflag &&& 0x01 = 0 → s.ie &&& s.iflag &&& 0x1E ≠ 0 →
      i.wellFormed = true → BytesAt s s.pc (encode i) →
      let u : State := { s with halted := false, pc := s.pc + BitVec.ofNat 16 (encode i).length }
      exec i u = .next t → t.fault = none → step s = .next (t.countEi.tick (cycles i u))) ∧
    (∀ (i : Instr) (t : State), s.inBios = true → s.pc ≠ 0x0100 → s.halted = false →
      i.wellFormed = true → BytesAt s s.pc (encode i) →
      let u : State := { s with pc := s.pc + BitVec.ofNat 16 (encode i).length }
      exec i u = .next t → t.fault = none → step s = .next (t.countEi.tick (cycles i u))) ∧
    (s.halted = true → s.ie &&& s.iflag &&& 0x1F = 0 → ¬(s.inBios = true ∧ s.pc = 0x0100) →
      step s = .next (s.tick 1)) ∧
    (s.halted = true → s.ie &&& s.iflag &&& 0x1F ≠ 0 → ¬(s.inBios = true ∧ s.pc = 0x0100) →
      ¬(s.ime = true ∧ s.ie &&& s.iflag &&& 0x01 ≠ 0 ∧ s.inBios = false) →
      step s = step { s with halted := false } ∧
      ∀ (i : Instr) (t : State), i.wellFormed = true → BytesAt s s.pc (encode i) →
        let u : State := { s with halted := false, pc := s.pc + BitVec.ofNat 16 (encode i).length }
        exec i u = .next t → t.fault = none → step s = .next (t.countEi.tick (cycles i u)))

/-- The BIOS handoff (R275): the step is the step of the state with `inBIOS`, LY and IE cleared and nothing else
changed (the spec's decision D40). -/
def Obligations.BiosHandoff : Prop :=
  ∀ s : State, s.Running → s.inBios = true → s.pc = 0x0100 →
    ∃ h : State, step s = step h ∧ h.inBios = false ∧ h.ly = 0 ∧ h.ie = 0 ∧
      (∀ a, a ≠ 0xFF44 → a ≠ 0xFFFF → h.cell a = s.cell a) ∧
      h = { s with inBios := false, mem := h.mem }

/-- `inBIOS` goes from 1 to 0 at 0x0100 and never back (R32), and no step changes the parameters (R33). -/
def Obligations.BiosFlagOnlyFalls : Prop :=
  ∀ s t : State, step s = .next t →
    (t.inBios = true ↔ s.inBios = true ∧ s.pc ≠ 0x0100) ∧ t.params = s.params

/-- A faulted machine has no step (R272), and a stopped one has none (R257): two different outcomes. Their form,
the fault outcome and the refusal `waitingForHost`, is the model's choice (notes/assumptions/4.md, 5.md). -/
def Obligations.FaultedAndStoppedHaveNoStep : Prop :=
  ∀ s : State,
    (∀ r, s.fault = some r → step s = .fault r) ∧
    (s.fault = none → s.stopped = true → step s = .refused .waitingForHost)

/-- The eleven undefined first bytes (R117, the spec's decision D1). The address in the meaning of `illegal` is
read back from PC (notes/assumptions/20.md). -/
def Obligations.UndefinedOpcodesFault : Prop :=
  (∀ op b1 b2 : Byte, (∃ rest, decode [op, b1, b2] = .ok (.illegal op, rest)) ↔
    op ∈ [0xD3, 0xDB, 0xDD, 0xE3, 0xE4, 0xEB, 0xEC, 0xED, 0xF4, 0xFC, (0xFD : Byte)]) ∧
  (∀ (s : State) (op : Byte), s.Fetches → s.memRead s.pc = .ok op →
    op ∈ [0xD3, 0xDB, 0xDD, 0xE3, 0xE4, 0xEB, 0xEC, 0xED, 0xF4, 0xFC, (0xFD : Byte)] →
    step s = .next { s with pc := s.pc + 1, fault := some (.unimplementedOpcode s.pc op) }) ∧
  (∀ (op : Byte) (s : State),
    exec (.illegal op) s = .next { s with fault := some (.unimplementedOpcode (s.pc - 1) op) })

/-- Fetch faults (R56, R273 a): the opcode byte, the second byte, the third byte. -/
def Obligations.FetchFaults : Prop :=
  ∀ s : State, s.Fetches →
    (∀ r, s.memRead s.pc = .error r → step s = .next { s with fault := some r }) ∧
    (∀ op r, s.memRead s.pc = .ok op → 2 ≤ instrLength op → s.memRead (s.pc + 1) = .error r →
      step s = .next { s with pc := s.pc + 1, fault := some r }) ∧
    (∀ op v r, s.memRead s.pc = .ok op → instrLength op = 3 → s.memRead (s.pc + 1) = .ok v →
      s.memRead (s.pc + 2) = .error r → step s = .next { s with pc := s.pc + 2, fault := some r })

/-- Faults are precise up to PC and SP (R273): against the state after the handoff and the wake of the same step,
nothing else differs; PC has passed the bytes fetched, and SP has moved by one only when the second read of a pop
faulted. (What a faulting step leaves is the spec's decision D25.) -/
def Obligations.FaultsArePrecise : Prop :=
  ∀ (s t : State) (r : Fault), step s = .next t → t.fault = some r →
    ∃ k ≤ 3, t = { s.beginStep with pc := s.pc + BitVec.ofNat 16 k, sp := t.sp, fault := some r } ∧
      (t.sp = s.sp ∨ (t.sp = s.sp + 1 ∧ s.beginStep.memRead (s.sp + 1) = .error r))

/-- IME rises only by the EI countdown, by RETI, or by EI with `EI_DELAY = 0` (R26). -/
def Obligations.ImeRisesOnlyByEiOrReti : Prop :=
  ∀ s t : State, step s = .next t → s.ime = false → t.ime = true →
    s.eiCountdown = 1 ∨ s.beginStep.memRead s.pc = .ok 0xD9 ∨
      (s.beginStep.memRead s.pc = .ok 0xFB ∧ s.params.eiDelay = 0)

/-- With `EI_DELAY = 1`, EI starts the countdown and leaves IME; the instruction after it, unless it is DI, ends with
IME = 1; DI cancels it (R258, R259). -/
def Obligations.EiTakesEffectOneInstructionLater : Prop :=
  ∀ (s : State) (i : Instr), s.Fetches → i.wellFormed = true → BytesAt s s.pc (encode i) → s.params.eiDelay = 1 →
    (i = .ei → s.eiCountdown = 0 → ∃ t, step s = .next t ∧ t.ime = s.ime ∧ t.eiCountdown = 1) ∧
    (i ≠ .di → s.eiCountdown = 1 → ∀ t, step s = .next t → t.fault = none → t.ime = true ∧ t.eiCountdown = 0) ∧
    (i = .di → ∃ t, step s = .next t ∧ t.ime = false ∧ t.eiCountdown = 0)

/-- `Tick(n)` adds `n` to `m` and changes besides it only LY, IF, DIV, TIMA, the three sub-counters and the
vertical-blank event (R285); a step adds the cost of its dispatch, of one idle cycle, or of its instruction, and
nothing when it faults (R30). -/
def Obligations.StepsAddTheirCost : Prop :=
  (∀ (s : State) (n : Nat),
    let t := s.tick n
    t.m = s.m + n ∧
    (∀ a, a ≠ 0xFF44 → a ≠ 0xFF0F → a ≠ 0xFF04 → a ≠ 0xFF05 → t.cell a = s.cell a) ∧
    t = { s with m := t.m, mem := t.mem, lyCounter := t.lyCounter, divCounter := t.divCounter,
                 timaCounter := t.timaCounter, vblankEvent := t.vblankEvent }) ∧
  (∀ s t : State, step s = .next t →
    (t.fault ≠ none → t.m = s.m) ∧
    (s.beginStep.dispatchable = true → t.m = s.m + s.params.dispatchCycles) ∧
    (s.beginStep.dispatchable = false → s.beginStep.halted = true → t.m = s.m + 1) ∧
    (∀ i, s.Fetches → i.wellFormed = true → BytesAt s s.pc (encode i) → t.fault = none →
      t.m = s.m + cycles i { s with pc := s.pc + BitVec.ofNat 16 (encode i).length }))

/-! ### Invariants -/

/-- Memory stays canonical and in its bounds, and VBK stays zero (R31, R35, R64). -/
def Obligations.StepKeepsMemoryCanonical : Prop :=
  ∀ s t : State, s.MemInv → step s = .next t → t.MemInv

/-- The low nibble of F stays zero (R22). -/
def Obligations.StepKeepsFlagNibbleZero : Prop :=
  ∀ s t : State, s.FlagInv → step s = .next t → t.FlagInv

/-- LY stays at most 153 and each sub-counter below its period (R38, R41). -/
def Obligations.StepKeepsCountersInRange : Prop :=
  ∀ s t : State, s.params.PeriodsPositive → s.TimeInv → step s = .next t → t.TimeInv

/-- The bank registers keep the values their controller can write (R34), and the EI countdown stays at most two,
zero when `EI_DELAY = 0` (R27). -/
def Obligations.StepKeepsBankAndEiRegisters : Prop :=
  ∀ s t : State, step s = .next t → (s.BankInv → t.BankInv) ∧ (s.EiInv → t.EiInv)

/-- Both reset variants satisfy all the invariants, for every well-formed choice of the parameters. -/
def Obligations.ResetSatisfiesInvariants : Prop :=
  ∀ p : Params, p.wf →
    (State.resetOf p).MemInv ∧ (State.resetOf p).FlagInv ∧ (State.resetOf p).TimeInv ∧
      (State.resetOf p).BankInv ∧ (State.resetOf p).EiInv ∧ (State.resetOf p).Running

/-- Every host move keeps all the invariants (R295). -/
def Obligations.HostMovesKeepInvariants : Prop :=
  ∀ (s t : State) (move : HostMove), s.hostMove move = some t → (∀ p, move = .reset p → p.wf) →
    (s.MemInv → t.MemInv) ∧ (s.FlagInv → t.FlagInv) ∧ (s.TimeInv → t.TimeInv) ∧
      (s.BankInv → t.BankInv) ∧ (s.EiInv → t.EiInv)

/-- The reset values (R46, R301; where the source is silent the spec's decisions D13, D14, D22, D23, D32). -/
def Obligations.ResetValues : Prop :=
  ∀ p : Params,
    let s := State.resetOf p
    (p.skipBios = false →
      (∀ r, s.reg r = 0) ∧ s.f = 0 ∧ s.sp = 0 ∧ s.pc = 0 ∧ s.inBios = true ∧ ∀ a, s.cell a = 0) ∧
    (p.skipBios = true →
      s.a = 0x01 ∧ s.f = 0xB0 ∧ s.b = 0x00 ∧ s.c = 0x13 ∧ s.d = 0x00 ∧ s.e = 0xD8 ∧ s.h = 0x01 ∧ s.l = 0x4D ∧
        s.sp = 0xFFFE ∧ s.pc = 0x0100 ∧ s.inBios = false ∧
        (∀ a, (∀ c ∈ p.postBiosIo, c.1 ≠ a) → s.cell a = 0) ∧
        (p.postBiosIo.Pairwise (fun c d => c.1 ≠ d.1) → ∀ c ∈ p.postBiosIo, s.cell c.1 = c.2)) ∧
    s.ime = false ∧ s.eiCountdown = 0 ∧ s.halted = false ∧ s.stopped = false ∧ s.fault = none ∧ s.m = 0 ∧
    s.mbc = { bankLo := 1, bankHi := 0, mode := 0, ramBankReg := 0, gateOpen := false } ∧
    s.extRam = p.extRamInit ∧ s.lyCounter = 0 ∧ s.divCounter = 0 ∧ s.timaCounter = 0 ∧
    s.vramDirty = false ∧ s.lcdcDirty = false ∧ s.vblankEvent = false ∧ s.params = p

/-! ### The register file and memory -/

/-- Registers and pairs (R21): a write reads back and leaves the others; a pair is its two registers, the
first-named one high; AF drops its low nibble. -/
def Obligations.RegisterPairsAlias : Prop :=
  ∀ (s : State) (d q : Reg8) (v : Byte) (w : Word),
    (s.setReg d v).reg q = (if q = d then v else s.reg q) ∧ (s.setReg d v).f = s.f ∧
    s.bc.toNat = s.b.toNat * 256 + s.c.toNat ∧ s.de.toNat = s.d.toNat * 256 + s.e.toNat ∧
    s.hl.toNat = s.h.toNat * 256 + s.l.toNat ∧ s.af.toNat = s.a.toNat * 256 + s.f.toNat ∧
    (∀ p, (s.setPair p w).pair p = w) ∧
    (∀ q, q ≠ .AF → (s.setStackPair q w).stackPair q = w) ∧
    (s.setStackPair .AF w).af = w &&& 0xFFF0 ∧
    (s.setHl w).h.toNat = w.toNat / 256 ∧ (s.setHl w).l.toNat = w.toNat % 256

/-- The read dispatch (R55, R56, R58, R74; beyond the declared RAM size the spec's decision D23). -/
def Obligations.ReadDispatch : Prop :=
  ∀ (s : State) (a : Word),
    let n := a.toNat
    let off := s.effRamBank * 0x2000 + (n - 0xA000)
    (∀ r, s.memRead a = .error r ↔
      (a = 0xFF01 ∨ a = 0xFF02 ∨ a = 0xFF46 ∨ a = 0xFF4D ∨ a = 0xFF70) ∧ r = .unsupportedRegister a) ∧
    (n < 0x0100 → s.inBios = true → s.memRead a = .ok (Memory.get s.params.bios n)) ∧
    (n < 0x4000 → ¬(s.inBios = true ∧ n < 0x0100) → s.memRead a = .ok (Memory.get s.params.rom n)) ∧
    (0x4000 ≤ n → n < 0x8000 →
      s.memRead a = .ok (Memory.get s.params.rom (s.effRomBank * 0x4000 + (n - 0x4000)))) ∧
    (0xA000 ≤ n → n < 0xC000 →
      (s.mbc.gateOpen = false ∨ s.params.ramBanks = 0 ∨ s.params.ramSize ≤ off → s.memRead a = .ok 0xFF) ∧
      (s.mbc.gateOpen = true → s.params.ramBanks ≠ 0 → off < s.params.ramSize →
        s.memRead a = .ok (Memory.get s.extRam off))) ∧
    (isMemCell n = true → unsupportedAddrs.contains n = false → s.memRead a = .ok (s.cell n))

/-- The write dispatch (R60, R62, R63, R66): which state each region's write changes, and what reads after
it (LY, DIV and the dirty flags are the spec's decisions D12, D19, D31). -/
def Obligations.WriteDispatch : Prop :=
  ∀ (s : State) (a : Word) (v : Byte),
    let n := a.toNat
    let t := s.memWrite a v
    (n < 0x8000 → t = { s with mbc := t.mbc }) ∧
    (0xA000 ≤ n → n < 0xC000 → t = { s with extRam := t.extRam }) ∧
    (n = 0xFF41 → t.stat = v ||| 0x80 ∧ (∀ b, b ≠ 0xFF41 → t.cell b = s.cell b) ∧ t = { s with mem := t.mem }) ∧
    (n = 0xFF4F ∨ n = 0xFF44 → t = s) ∧
    (n = 0xFF04 → t.div = 0 ∧ (∀ b, b ≠ 0xFF04 → t.cell b = s.cell b) ∧
      t = { s with mem := t.mem, divCounter := 0 }) ∧
    (plainAddr n = true →
      t.cell n = v ∧ (∀ b, b ≠ n → t.cell b = s.cell b) ∧
      (unsupportedAddrs.contains n = false → t.memRead a = .ok v) ∧
      (∀ b, b ≠ a → t.memRead b = s.memRead b) ∧
      t.lcdcDirty = (s.lcdcDirty || decide (n = 0xFF40)) ∧
      t.vramDirty = (s.vramDirty || decide (0x8000 ≤ n ∧ n < 0xA000)) ∧
      t = { s with mem := t.mem, lcdcDirty := t.lcdcDirty, vramDirty := t.vramDirty })

/-- Writes to ROM addresses command the bank controller (R61, R70, R71, R76, R77; the masks are the spec's decision
D22). -/
def Obligations.BankControllerWrites : Prop :=
  ∀ (s : State) (a : Word) (v : Byte), a.toNat < 0x8000 →
    let n := a.toNat
    let t := s.memWrite a v
    (s.params.cartKind = .none → t = s ∧ s.effRomBank = 1) ∧
    (s.params.cartKind ≠ .none → n < 0x2000 →
      t = { s with mbc := { s.mbc with gateOpen := decide (v.toNat = 0x0A) } }) ∧
    (s.params.cartKind = .mbc1 →
      (0x2000 ≤ n → n < 0x4000 → t = { s with mbc := { s.mbc with bankLo := BitVec.ofNat 8 (v.toNat % 32) } }) ∧
      (0x4000 ≤ n → n < 0x6000 → t = { s with mbc := { s.mbc with bankHi := BitVec.ofNat 2 (v.toNat % 4) } }) ∧
      (0x6000 ≤ n → t = { s with mbc := { s.mbc with mode := BitVec.ofNat 1 (v.toNat % 2) } })) ∧
    (s.params.cartKind = .mbc3 ∨ s.params.cartKind = .mbc5 →
      (0x2000 ≤ n → n < 0x4000 → t = { s with mbc := { s.mbc with bankLo := v } }) ∧
      (0x4000 ≤ n → n < 0x6000 → t = { s with mbc := { s.mbc with ramBankReg := v } }) ∧
      (0x6000 ≤ n → t = s))

/-- The effective ROM bank (R72): the formula, the bounds, requests 0 and `k` of a cartridge with `k` banks, and a
switch seen by the next read. -/
def Obligations.EffectiveRomBank : Prop :=
  ∀ s : State, 2 ≤ s.params.romBanks → s.BankInv →
    let k := s.params.romBanks
    1 ≤ s.effRomBank ∧ s.effRomBank < k ∧
    (s.params.cartKind = .none → s.effRomBank = 1) ∧
    (s.params.cartKind = .mbc1 → s.mbc.mode = 0 →
      s.effRomBank = max 1 ((s.mbc.bankHi.toNat * 32 + s.mbc.bankLo.toNat) % k)) ∧
    (s.params.cartKind = .mbc1 → s.mbc.mode = 1 → s.effRomBank = max 1 (s.mbc.bankLo.toNat % k)) ∧
    (s.params.cartKind = .mbc3 ∨ s.params.cartKind = .mbc5 →
      s.effRomBank = max 1 (s.mbc.bankLo.toNat % k) ∧
      ∀ (a b : Word) (v : Byte), 0x2000 ≤ a.toNat → a.toNat < 0x4000 → 0x4000 ≤ b.toNat → b.toNat < 0x8000 →
        (v = 0 ∨ v.toNat = k → (s.memWrite a v).memRead b = .ok (Memory.get s.params.rom b.toNat)) ∧
        (v ≠ 0 → v.toNat < k → (s.memWrite a v).memRead b =
          .ok (Memory.get s.params.rom (v.toNat * 0x4000 + (b.toNat - 0x4000)))))

/-- The external-RAM window (R73, R74, R75): closed it reads 0xFF and drops writes; open, a write reads back and
leaves every other byte alone. -/
def Obligations.ExternalRamWindow : Prop :=
  ∀ (s : State) (a : Word) (v : Byte), 0xA000 ≤ a.toNat → a.toNat < 0xC000 →
    let off := s.effRamBank * 0x2000 + (a.toNat - 0xA000)
    let t := s.memWrite a v
    (s.params.cartKind = .mbc1 →
      s.effRamBank = (if s.mbc.mode = 1 then s.mbc.bankHi.toNat else 0) % s.params.ramBanks) ∧
    (s.params.cartKind = .mbc3 ∨ s.params.cartKind = .mbc5 →
      s.effRamBank = s.mbc.ramBankReg.toNat % s.params.ramBanks) ∧
    (s.mbc.gateOpen = false ∨ s.params.ramBanks = 0 ∨ s.params.ramSize ≤ off →
      t = s ∧ s.memRead a = .ok 0xFF) ∧
    (s.mbc.gateOpen = true → s.params.ramBanks ≠ 0 → off < s.params.ramSize →
      t.memRead a = .ok v ∧ (∀ b, b ≠ a → t.memRead b = s.memRead b) ∧
      Memory.get t.extRam off = v ∧ (∀ o, o ≠ off → Memory.get t.extRam o = Memory.get s.extRam o))

/-- The canonical form is canonical: two canonical memories with the same bytes are equal. The form is the model's
choice (notes/assumptions/6.md). -/
def Obligations.CanonicalMemoryIsUnique : Prop :=
  ∀ m n : Memory, Memory.wf m → Memory.wf n → (∀ a, Memory.get m a = Memory.get n a) → m = n

/-! ### Frames over all instructions -/

/-- Every instruction answers a next state, and changes only its destination registers, SP where it moves SP, PC
where it is a control transfer, and the flags where its rule names one (R23, R24, R25). -/
def Obligations.RegisterFrame : Prop :=
  ∀ (i : Instr) (s : State), ∃ t, exec i s = .next t ∧
    (∀ r, r ∉ destRegs i → t.reg r = s.reg r) ∧
    (writesFlags i = false → t.f = s.f) ∧
    (writesSp i = false → t.sp = s.sp) ∧
    (writesPc i = false → t.pc = s.pc)

/-- Everything else that is no memory: time, the latches and the parameters (R26, R28, R30, R32). -/
def Obligations.LatchFrame : Prop :=
  ∀ (i : Instr) (s t : State), exec i s = .next t →
    t.m = s.m ∧ t.lyCounter = s.lyCounter ∧ t.timaCounter = s.timaCounter ∧ t.inBios = s.inBios ∧
    t.vblankEvent = s.vblankEvent ∧ t.params = s.params ∧
    (writesIme i = false → t.ime = s.ime ∧ t.eiCountdown = s.eiCountdown) ∧
    (i ≠ .halt → t.halted = s.halted) ∧
    ((∀ n, i ≠ .stop n) → t.stopped = s.stopped) ∧
    ((∀ a ∈ storeAddrs i s, 0x8000 ≤ a.toNat) → t.mbc = s.mbc) ∧
    ((∀ a ∈ storeAddrs i s, a.toNat ≠ 0xFF04) → t.divCounter = s.divCounter) ∧
    ((∀ a ∈ storeAddrs i s, a.toNat ≠ 0xFF40) → t.lcdcDirty = s.lcdcDirty) ∧
    ((∀ a ∈ storeAddrs i s, ¬(0x8000 ≤ a.toNat ∧ a.toNat < 0xA000)) → t.vramDirty = s.vramDirty)

/-- Memory: every byte outside the addresses the instruction stores to reads as before, unless one of them commands
the bank controller; the cells of `mem` outside them are as before in any case, and so is the external RAM, hidden
banks included, except the bytes the stored addresses show. -/
def Obligations.MemoryFrame : Prop :=
  ∀ (i : Instr) (s t : State), exec i s = .next t →
    ((∀ x ∈ storeAddrs i s, 0x8000 ≤ x.toNat) → ∀ a, a ∉ storeAddrs i s → t.memRead a = s.memRead a) ∧
    (∀ a : Nat, (∀ x ∈ storeAddrs i s, x.toNat ≠ a) → t.cell a = s.cell a) ∧
    ((∀ x ∈ storeAddrs i s, ¬(0xA000 ≤ x.toNat ∧ x.toNat < 0xC000)) → t.extRam = s.extRam) ∧
    ((∀ x ∈ storeAddrs i s, 0x8000 ≤ x.toNat) → ∀ o : Nat,
      (∀ x ∈ storeAddrs i s, 0xA000 ≤ x.toNat → x.toNat < 0xC000 → s.extRamOffset x.toNat ≠ some o) →
      Memory.get t.extRam o = Memory.get s.extRam o)

/-! ### 8-bit loads -/

/-- 8-bit loads (R130 to R132, R135, R136, R139, R141, R143, R145, R147). -/
def Obligations.LoadByte : Prop :=
  (∀ (d r : Reg8) (n : Byte),
    CodedAs (Forms.ldRegReg d r) [byteOf (0x40 + 8 * d.code + r.code)] 1 ∧
    (∀ s, ∃ t, exec (Forms.ldRegReg d r) s = .next t ∧ t.reg d = s.reg r ∧ t = s.setReg d (t.reg d)) ∧
    CodedAs (Forms.ldRegImm d n) [byteOf (0x06 + 8 * d.code), n] 2 ∧
    (∀ s, ∃ t, exec (Forms.ldRegImm d n) s = .next t ∧ t.reg d = n ∧ t = s.setReg d (t.reg d)) ∧
    CodedAs (Forms.ldRegMem d) [byteOf (0x46 + 8 * d.code)] 2 ∧
    ReadsThen (Forms.ldRegMem d) State.hl fun s v t => t.reg d = v ∧ t = s.setReg d (t.reg d)) ∧
  CodedAs .ld_A_mBC [0x0A] 2 ∧ ReadsThen .ld_A_mBC State.bc (fun s v t => t = { s with a := v }) ∧
  CodedAs .ld_A_mDE [0x1A] 2 ∧ ReadsThen .ld_A_mDE State.de (fun s v t => t = { s with a := v }) ∧
  (∀ nn : Word, CodedAs (.ld_A_mnn nn) [0xFA, loByte nn, hiByte nn] 4 ∧
    ReadsThen (.ld_A_mnn nn) (fun _ => nn) (fun s v t => t = { s with a := v })) ∧
  CodedAs .ldh_A_mC [0xF2] 2 ∧
  ReadsThen .ldh_A_mC (fun s => BitVec.ofNat 16 (0xFF00 + s.c.toNat)) (fun s v t => t = { s with a := v }) ∧
  (∀ n : Byte, CodedAs (.ldh_A_mn n) [0xF0, n] 3 ∧
    ReadsThen (.ldh_A_mn n) (fun _ => BitVec.ofNat 16 (0xFF00 + n.toNat)) (fun s v t => t = { s with a := v })) ∧
  CodedAs .ld_A_mHLdec [0x3A] 2 ∧
  ReadsThen .ld_A_mHLdec State.hl
    (fun s v t => t.a = v ∧ t.hl = s.hl - 1 ∧ t = { s with a := t.a, h := t.h, l := t.l }) ∧
  CodedAs .ld_A_mHLinc [0x2A] 2 ∧
  ReadsThen .ld_A_mHLinc State.hl
    (fun s v t => t.a = v ∧ t.hl = s.hl + 1 ∧ t = { s with a := t.a, h := t.h, l := t.l })

/-- 8-bit stores (R133, R134, R137, R138, R140, R142, R144, R146, R148): one byte through the write dispatch. -/
def Obligations.StoreByte : Prop :=
  ∀ s : State,
    (∀ r : Reg8, CodedAs (Forms.ldMemReg r) [byteOf (0x70 + r.code)] 2 ∧
      exec (Forms.ldMemReg r) s = .next (s.memWrite s.hl (s.reg r))) ∧
    (∀ n : Byte, CodedAs (.ld_mHL_n n) [0x36, n] 3 ∧ exec (.ld_mHL_n n) s = .next (s.memWrite s.hl n)) ∧
    CodedAs .ld_mBC_A [0x02] 2 ∧ exec .ld_mBC_A s = .next (s.memWrite s.bc s.a) ∧
    CodedAs .ld_mDE_A [0x12] 2 ∧ exec .ld_mDE_A s = .next (s.memWrite s.de s.a) ∧
    (∀ nn : Word, CodedAs (.ld_mnn_A nn) [0xEA, loByte nn, hiByte nn] 4 ∧
      exec (.ld_mnn_A nn) s = .next (s.memWrite nn s.a)) ∧
    CodedAs .ldh_mC_A [0xE2] 2 ∧
    exec .ldh_mC_A s = .next (s.memWrite (BitVec.ofNat 16 (0xFF00 + s.c.toNat)) s.a) ∧
    (∀ n : Byte, CodedAs (.ldh_mn_A n) [0xE0, n] 3 ∧
      exec (.ldh_mn_A n) s = .next (s.memWrite (BitVec.ofNat 16 (0xFF00 + n.toNat)) s.a)) ∧
    CodedAs .ld_mHLdec_A [0x32] 2 ∧ CodedAs .ld_mHLinc_A [0x22] 2 ∧
    (∃ t, exec .ld_mHLdec_A s = .next t ∧ t.hl = s.hl - 1 ∧ t = { s.memWrite s.hl s.a with h := t.h, l := t.l }) ∧
    (∃ t, exec .ld_mHLinc_A s = .next t ∧ t.hl = s.hl + 1 ∧ t = { s.memWrite s.hl s.a with h := t.h, l := t.l })

/-! ### 16-bit loads and the stack -/

/-- `LD rr,nn`, `LD SP,HL`, `LD (nn),SP` (R151, R152, R153). -/
def Obligations.LoadPairs : Prop :=
  ∀ (s : State) (nn : Word),
    (∀ p : Pair, CodedAs (Forms.ldPairImm p nn) [byteOf (0x01 + 16 * p.code), loByte nn, hiByte nn] 3 ∧
      exec (Forms.ldPairImm p nn) s = .next (s.setPair p nn)) ∧
    CodedAs .ld_SP_HL [0xF9] 2 ∧ exec .ld_SP_HL s = .next { s with sp := s.hl } ∧
    CodedAs (.ld_mnn_SP nn) [0x08, loByte nn, hiByte nn] 5 ∧
    (∃ t, exec (.ld_mnn_SP nn) s = .next t ∧
      t = (s.memWrite nn (BitVec.ofNat 8 (s.sp.toNat % 256))).memWrite (nn + 1) (BitVec.ofNat 8 (s.sp.toNat / 256)) ∧
      (ramAddr nn.toNat = true → ramAddr (nn + 1).toNat = true →
        t.memRead nn = .ok (loByte s.sp) ∧ t.memRead (nn + 1) = .ok (hiByte s.sp) ∧
        ∀ a, a ≠ nn → a ≠ nn + 1 → t.memRead a = s.memRead a))

/-- `PUSH qq` and `POP qq` (R154, R155). PUSH writes the high byte at SP-1, then the low byte at SP-2, through the
write dispatch; the pushed flags byte has a zero low nibble (R22). POP takes the low byte from SP and the high byte
from SP+1; AF drops its low nibble; where a read faults, no pair is written, and SP has passed the bytes read. -/
def Obligations.PushAndPop : Prop :=
  ∀ (q : StackPair) (s : State),
    CodedAs (Forms.push q) [byteOf (0xC5 + 16 * q.code)] 4 ∧ CodedAs (Forms.pop q) [byteOf (0xC1 + 16 * q.code)] 3 ∧
    (s.FlagInv → q = .AF → loByte (s.stackPair q) &&& 0x0F = 0) ∧
    (∃ t, exec (Forms.push q) s = .next t ∧
      t = { (s.memWrite (s.sp - 1) (hiByte (s.stackPair q))).memWrite (s.sp - 2) (loByte (s.stackPair q)) with
        sp := s.sp - 2 } ∧
      (ramAddr (s.sp - 1).toNat = true → ramAddr (s.sp - 2).toNat = true →
        t.memRead (s.sp - 1) = .ok (hiByte (s.stackPair q)) ∧
        t.memRead (s.sp - 2) = .ok (loByte (s.stackPair q)) ∧
        ∀ a, a ≠ s.sp - 1 → a ≠ s.sp - 2 → t.memRead a = s.memRead a)) ∧
    (∀ lo hi, s.memRead s.sp = .ok lo → s.memRead (s.sp + 1) = .ok hi →
      ∃ t, exec (Forms.pop q) s = .next t ∧
        t.stackPair q = (if q = .AF then word hi (lo &&& 0xF0) else word hi lo) ∧
        t = { s.setStackPair q (t.stackPair q) with sp := s.sp + 2 }) ∧
    (∀ r, s.memRead s.sp = .error r → exec (Forms.pop q) s = .next { s with fault := some r }) ∧
    (∀ lo r, s.memRead s.sp = .ok lo → s.memRead (s.sp + 1) = .error r →
      exec (Forms.pop q) s = .next { s with sp := s.sp + 1, fault := some r })

/-- When the stack is in RAM, a pop after a push gives the pair and SP back, RET after CALL comes back, and RETI after
the dispatch of an interrupt comes back with IME set (R150, R246, R248, R283). -/
def Obligations.StackRoundTrips : Prop :=
  ∀ s : State, ramAddr (s.sp - 1).toNat = true → ramAddr (s.sp - 2).toNat = true →
    (∀ q q' : StackPair, ∃ t u, exec (Forms.push q) s = .next t ∧ exec (Forms.pop q') t = .next u ∧ u.sp = s.sp ∧
      u.stackPair q' = (if q' = .AF then s.stackPair q &&& 0xFFF0 else s.stackPair q)) ∧
    (∀ nn : Word, ∃ t u, exec (.call_nn nn) s = .next t ∧ exec .ret t = .next u ∧ u.pc = s.pc ∧ u.sp = s.sp) ∧
    (∃ u, exec .reti s.dispatch = .next u ∧ u.pc = s.pc ∧ u.sp = s.sp ∧ u.ime = true)

/-! ### 8-bit arithmetic and logic -/

/-- ADD and ADC in their three forms (R161, R164 to R169). -/
def Obligations.AddAndAddWithCarry : Prop :=
  (∀ r : Reg8, CodedAs (Forms.aluReg .add r) [byteOf (0x80 + r.code)] 1 ∧
    Completes (Forms.aluReg .add r) (fun s => s.reg r) (SumIs noCarry) ∧
    CodedAs (Forms.aluReg .adc r) [byteOf (0x88 + r.code)] 1 ∧
    Completes (Forms.aluReg .adc r) (fun s => s.reg r) (SumIs oldCarry)) ∧
  (∀ n : Byte, CodedAs (Forms.aluImm .add n) [0xC6, n] 2 ∧
    Completes (Forms.aluImm .add n) (fun _ => n) (SumIs noCarry) ∧
    CodedAs (Forms.aluImm .adc n) [0xCE, n] 2 ∧
    Completes (Forms.aluImm .adc n) (fun _ => n) (SumIs oldCarry)) ∧
  CodedAs (Forms.aluMem .add) [0x86] 2 ∧ ReadsThen (Forms.aluMem .add) State.hl (SumIs noCarry) ∧
  CodedAs (Forms.aluMem .adc) [0x8E] 2 ∧ ReadsThen (Forms.aluMem .adc) State.hl (SumIs oldCarry)

/-- SUB, SBC and CP in their three forms (R162, R170 to R175, R185 to R187). -/
def Obligations.SubtractAndCompare : Prop :=
  (∀ r : Reg8, CodedAs (Forms.aluReg .sub r) [byteOf (0x90 + r.code)] 1 ∧
    Completes (Forms.aluReg .sub r) (fun s => s.reg r) (DifferenceIs true noCarry) ∧
    CodedAs (Forms.aluReg .sbc r) [byteOf (0x98 + r.code)] 1 ∧
    Completes (Forms.aluReg .sbc r) (fun s => s.reg r) (DifferenceIs true oldCarry) ∧
    CodedAs (Forms.aluReg .cp r) [byteOf (0xB8 + r.code)] 1 ∧
    Completes (Forms.aluReg .cp r) (fun s => s.reg r) (DifferenceIs false noCarry)) ∧
  (∀ n : Byte, CodedAs (Forms.aluImm .sub n) [0xD6, n] 2 ∧
    Completes (Forms.aluImm .sub n) (fun _ => n) (DifferenceIs true noCarry) ∧
    CodedAs (Forms.aluImm .sbc n) [0xDE, n] 2 ∧
    Completes (Forms.aluImm .sbc n) (fun _ => n) (DifferenceIs true oldCarry) ∧
    CodedAs (Forms.aluImm .cp n) [0xFE, n] 2 ∧
    Completes (Forms.aluImm .cp n) (fun _ => n) (DifferenceIs false noCarry)) ∧
  CodedAs (Forms.aluMem .sub) [0x96] 2 ∧ ReadsThen (Forms.aluMem .sub) State.hl (DifferenceIs true noCarry) ∧
  CodedAs (Forms.aluMem .sbc) [0x9E] 2 ∧ ReadsThen (Forms.aluMem .sbc) State.hl (DifferenceIs true oldCarry) ∧
  CodedAs (Forms.aluMem .cp) [0xBE] 2 ∧ ReadsThen (Forms.aluMem .cp) State.hl (DifferenceIs false noCarry)

/-- AND, XOR and OR in their three forms (R176 to R184). -/
def Obligations.BitwiseLogic : Prop :=
  (∀ r : Reg8, CodedAs (Forms.aluReg .and r) [byteOf (0xA0 + r.code)] 1 ∧
    Completes (Forms.aluReg .and r) (fun s => s.reg r) (BitwiseIs and true) ∧
    CodedAs (Forms.aluReg .xor r) [byteOf (0xA8 + r.code)] 1 ∧
    Completes (Forms.aluReg .xor r) (fun s => s.reg r) (BitwiseIs xor false) ∧
    CodedAs (Forms.aluReg .or r) [byteOf (0xB0 + r.code)] 1 ∧
    Completes (Forms.aluReg .or r) (fun s => s.reg r) (BitwiseIs or false)) ∧
  (∀ n : Byte, CodedAs (Forms.aluImm .and n) [0xE6, n] 2 ∧
    Completes (Forms.aluImm .and n) (fun _ => n) (BitwiseIs and true) ∧
    CodedAs (Forms.aluImm .xor n) [0xEE, n] 2 ∧
    Completes (Forms.aluImm .xor n) (fun _ => n) (BitwiseIs xor false) ∧
    CodedAs (Forms.aluImm .or n) [0xF6, n] 2 ∧
    Completes (Forms.aluImm .or n) (fun _ => n) (BitwiseIs or false)) ∧
  CodedAs (Forms.aluMem .and) [0xA6] 2 ∧ ReadsThen (Forms.aluMem .and) State.hl (BitwiseIs and true) ∧
  CodedAs (Forms.aluMem .xor) [0xAE] 2 ∧ ReadsThen (Forms.aluMem .xor) State.hl (BitwiseIs xor false) ∧
  CodedAs (Forms.aluMem .or) [0xB6] 2 ∧ ReadsThen (Forms.aluMem .or) State.hl (BitwiseIs or false)

/-- 8-bit INC and DEC, register and memory (R188 to R191): C is left as it was. -/
def Obligations.IncrementDecrementByte : Prop :=
  (∀ r : Reg8, CodedAs (Forms.incReg r) [byteOf (0x04 + 8 * r.code)] 1 ∧
    CodedAs (Forms.decReg r) [byteOf (0x05 + 8 * r.code)] 1 ∧
    ∀ s : State,
      (∃ t, exec (Forms.incReg r) s = .next t ∧ (t.reg r).toNat = ((s.reg r).toNat + 1) % 256 ∧
        t.FlagsAre (decide ((s.reg r).toNat = 255)) false (decide ((s.reg r).toNat % 16 = 15)) s.flagC ∧
        SameFlagLow s t ∧ t = { s.setReg r (t.reg r) with f := t.f }) ∧
      (∃ t, exec (Forms.decReg r) s = .next t ∧ (t.reg r).toNat = ((s.reg r).toNat + 255) % 256 ∧
        t.FlagsAre (decide ((s.reg r).toNat = 1)) true (decide ((s.reg r).toNat % 16 = 0)) s.flagC ∧
        SameFlagLow s t ∧ t = { s.setReg r (t.reg r) with f := t.f })) ∧
  CodedAs .inc_mHL [0x34] 3 ∧ CodedAs .dec_mHL [0x35] 3 ∧
  (ReadsThen .inc_mHL State.hl fun s v t =>
    t.FlagsAre (decide (v.toNat = 255)) false (decide (v.toNat % 16 = 15)) s.flagC ∧
    SameFlagLow s t ∧ t = { s.memWrite s.hl (byteOf ((v.toNat + 1) % 256)) with f := t.f }) ∧
  (ReadsThen .dec_mHL State.hl fun s v t =>
    t.FlagsAre (decide (v.toNat = 1)) true (decide (v.toNat % 16 = 0)) s.flagC ∧
    SameFlagLow s t ∧ t = { s.memWrite s.hl (byteOf ((v.toNat + 255) % 256)) with f := t.f })

/-- DAA, CPL, SCF, CCF (R192 to R195). -/
def Obligations.AccumulatorAdjustments : Prop :=
  CodedAs .daa [0x27] 1 ∧ CodedAs .cpl [0x2F] 1 ∧ CodedAs .scf [0x37] 1 ∧ CodedAs .ccf [0x3F] 1 ∧
  ∀ s : State,
    (∃ t, exec .daa s = .next t ∧
      t.a.toNat = (adjusted s.a.toNat s.flagN s.flagH s.flagC).1 ∧
      t.FlagsAre (decide (t.a = 0)) s.flagN false (adjusted s.a.toNat s.flagN s.flagH s.flagC).2 ∧
      SameFlagLow s t ∧ t = { s with a := t.a, f := t.f }) ∧
    (∃ t, exec .cpl s = .next t ∧ t.a.toNat = 255 - s.a.toNat ∧ t.FlagsAre s.flagZ true true s.flagC ∧
      SameFlagLow s t ∧ t = { s with a := t.a, f := t.f }) ∧
    (∃ t, exec .scf s = .next t ∧ t.FlagsAre s.flagZ false false true ∧ SameFlagLow s t ∧
      t = { s with f := t.f }) ∧
    (∃ t, exec .ccf s = .next t ∧ t.FlagsAre s.flagZ false false (!s.flagC) ∧ SameFlagLow s t ∧
      t = { s with f := t.f })

/-- DAA after ADD gives the decimal sum of two-digit decimal operands: 100 times the carry plus the two digits
of `A`, each below ten (what R192 is for). -/
def Obligations.DecimalAddition : Prop :=
  ∀ (s : State) (x y : Nat) (r : Reg8), x < 100 → y < 100 →
    s.a.toNat = x / 10 * 16 + x % 10 → (s.reg r).toNat = y / 10 * 16 + y % 10 →
    ∃ t u, exec (Forms.aluReg .add r) s = .next t ∧ exec .daa t = .next u ∧
      u.flagC.toNat * 100 + u.a.toNat / 16 * 10 + u.a.toNat % 16 = x + y ∧ u.a.toNat / 16 < 10 ∧
        u.a.toNat % 16 < 10

/-! ### 16-bit arithmetic -/

/-- `ADD HL,rr`, `INC rr`, `DEC rr` (R200, R201, R202); `LD HL,SP+e` and `ADD SP,e` (R156, R203): the signed sum, and
the flags of the raw low-byte sums. -/
def Obligations.WordArithmetic : Prop :=
  ∀ (p : Pair) (e : Byte), CodedAs (Forms.addHlPair p) [byteOf (0x09 + 16 * p.code)] 2 ∧
    CodedAs (Forms.incPair p) [byteOf (0x03 + 16 * p.code)] 2 ∧
    CodedAs (Forms.decPair p) [byteOf (0x0B + 16 * p.code)] 2 ∧
    CodedAs (.ld_HL_SPe e) [0xF8, e] 3 ∧ CodedAs (.add_SP_e e) [0xE8, e] 4 ∧
    ∀ s : State,
      (∃ t, exec (Forms.addHlPair p) s = .next t ∧ t.hl.toNat = (s.hl.toNat + (s.pair p).toNat) % 65536 ∧
        t.FlagsAre s.flagZ false (decide (s.hl.toNat % 4096 + (s.pair p).toNat % 4096 > 4095))
          (decide (s.hl.toNat + (s.pair p).toNat > 65535)) ∧
        SameFlagLow s t ∧ t = { s with h := t.h, l := t.l, f := t.f }) ∧
      (∃ t, exec (Forms.incPair p) s = .next t ∧ (t.pair p).toNat = ((s.pair p).toNat + 1) % 65536 ∧
        t = s.setPair p (t.pair p)) ∧
      (∃ t, exec (Forms.decPair p) s = .next t ∧ (t.pair p).toNat = ((s.pair p).toNat + 65535) % 65536 ∧
        t = s.setPair p (t.pair p)) ∧
      (∃ t, exec (.ld_HL_SPe e) s = .next t ∧
        (t.hl.toNat : Int) = ((s.sp.toNat : Int) + e.toInt) % 65536 ∧
        t.FlagsAre false false (decide (s.sp.toNat % 16 + e.toNat % 16 > 15))
          (decide (s.sp.toNat % 256 + e.toNat > 255)) ∧
        SameFlagLow s t ∧ t = { s with h := t.h, l := t.l, f := t.f }) ∧
      (∃ t, exec (.add_SP_e e) s = .next t ∧
        (t.sp.toNat : Int) = ((s.sp.toNat : Int) + e.toInt) % 65536 ∧
        t.FlagsAre false false (decide (s.sp.toNat % 16 + e.toNat % 16 > 15))
          (decide (s.sp.toNat % 256 + e.toNat > 255)) ∧
        SameFlagLow s t ∧ t = { s with sp := t.sp, f := t.f })

/-! ### Rotates, shifts and bits -/

/-- The accumulator rotates clear Z whatever the result (R209 to R213). -/
def Obligations.AccumulatorRotates : Prop :=
  CodedAs .rlca [0x07] 1 ∧ CodedAs .rrca [0x0F] 1 ∧ CodedAs .rla [0x17] 1 ∧ CodedAs .rra [0x1F] 1 ∧
  ∀ (op : RotOp) (i : Instr) (s : State),
    (op = .rlc ∧ i = .rlca) ∨ (op = .rrc ∧ i = .rrca) ∨ (op = .rl ∧ i = .rla) ∨ (op = .rr ∧ i = .rra) →
    ∃ t, exec i s = .next t ∧ t.a.toNat = (shifted op s.a.toNat s.flagC.toNat).1 ∧
      t.FlagsAre false false false (decide ((shifted op s.a.toNat s.flagC.toNat).2 = 1)) ∧
      SameFlagLow s t ∧ t = { s with a := t.a, f := t.f }

/-- The CB-prefixed rotates and shifts of a register (R208, and the register rules of R214 to R228). -/
def Obligations.RotateShiftRegister : Prop :=
  ∀ (op : RotOp) (r : Reg8), CodedAs (Forms.rotReg op r) [0xCB, byteOf (8 * op.code + r.code)] 2 ∧
    ∀ s : State, ∃ t, exec (Forms.rotReg op r) s = .next t ∧
      (t.reg r).toNat = (shifted op (s.reg r).toNat s.flagC.toNat).1 ∧
      t.FlagsAre (decide (t.reg r = 0)) false false
        (decide ((shifted op (s.reg r).toNat s.flagC.toNat).2 = 1)) ∧
      SameFlagLow s t ∧ t = { s.setReg r (t.reg r) with f := t.f }

/-- The CB-prefixed rotates and shifts of the byte at HL (the memory rules of R215 to R229): flags from the result,
not from what memory then holds. -/
def Obligations.RotateShiftMemory : Prop :=
  ∀ op : RotOp, CodedAs (Forms.rotMem op) [0xCB, byteOf (8 * op.code + 6)] 4 ∧
    ReadsThen (Forms.rotMem op) State.hl fun s v t =>
      t.FlagsAre (decide ((shifted op v.toNat s.flagC.toNat).1 = 0)) false false
        (decide ((shifted op v.toNat s.flagC.toNat).2 = 1)) ∧
      SameFlagLow s t ∧
      t = { s.memWrite s.hl (byteOf (shifted op v.toNat s.flagC.toNat).1) with f := t.f }

/-- BIT (R230, R231), RES and SET (R232 to R235): one bit; BIT writes flags only, RES and SET no flag. -/
def Obligations.BitInstructions : Prop :=
  ∀ b : Oct,
    (∀ r : Reg8, CodedAs (Forms.bitReg b r) [0xCB, byteOf (0x40 + 8 * b.toNat + r.code)] 2 ∧
      CodedAs (Forms.resReg b r) [0xCB, byteOf (0x80 + 8 * b.toNat + r.code)] 2 ∧
      CodedAs (Forms.setReg b r) [0xCB, byteOf (0xC0 + 8 * b.toNat + r.code)] 2 ∧
      ∀ s : State,
        (∃ t, exec (Forms.bitReg b r) s = .next t ∧
          t.FlagsAre (decide ((s.reg r).toNat / 2 ^ b.toNat % 2 = 0)) false true s.flagC ∧
          SameFlagLow s t ∧ t = { s with f := t.f }) ∧
        (∃ t, exec (Forms.resReg b r) s = .next t ∧ t = s.setReg r (t.reg r) ∧
          ∀ k, k < 8 → (t.reg r).getLsbD k = (if k = b.toNat then false else (s.reg r).getLsbD k)) ∧
        (∃ t, exec (Forms.setReg b r) s = .next t ∧ t = s.setReg r (t.reg r) ∧
          ∀ k, k < 8 → (t.reg r).getLsbD k = (if k = b.toNat then true else (s.reg r).getLsbD k))) ∧
    CodedAs (Forms.bitMem b) [0xCB, byteOf (0x46 + 8 * b.toNat)] 3 ∧
    CodedAs (Forms.resMem b) [0xCB, byteOf (0x86 + 8 * b.toNat)] 4 ∧
    CodedAs (Forms.setMem b) [0xCB, byteOf (0xC6 + 8 * b.toNat)] 4 ∧
    (ReadsThen (Forms.bitMem b) State.hl fun s v t =>
      t.FlagsAre (decide (v.toNat / 2 ^ b.toNat % 2 = 0)) false true s.flagC ∧
      SameFlagLow s t ∧ t = { s with f := t.f }) ∧
    (ReadsThen (Forms.resMem b) State.hl fun s v t => ∃ w, t = s.memWrite s.hl w ∧
      ∀ k, k < 8 → w.getLsbD k = (if k = b.toNat then false else v.getLsbD k)) ∧
    (ReadsThen (Forms.setMem b) State.hl fun s v t => ∃ w, t = s.memWrite s.hl w ∧
      ∀ k, k < 8 → w.getLsbD k = (if k = b.toNat then true else v.getLsbD k))

/-! ### Control transfer -/

/-- Jumps (R240 to R245). -/
def Obligations.Jumps : Prop :=
  (∀ (s : State) (cc : Cond), s.cond cc = (match cc with
    | .nz => !s.f.getLsbD 7
    | .z => s.f.getLsbD 7
    | .nc => !s.f.getLsbD 4
    | .c => s.f.getLsbD 4)) ∧
  (∀ nn : Word, CodedAs (.jp_nn nn) [0xC3, loByte nn, hiByte nn] 4 ∧
    (∀ s, exec (.jp_nn nn) s = .next { s with pc := nn }) ∧
    ∀ cc : Cond, CodedAsIf (Forms.jpCond cc nn) [byteOf (0xC2 + 8 * cc.code), loByte nn, hiByte nn] cc 4 3 ∧
      ∀ s, exec (Forms.jpCond cc nn) s = .next { s with pc := if s.cond cc then nn else s.pc }) ∧
  CodedAs .jp_HL [0xE9] 1 ∧ (∀ s, exec .jp_HL s = .next { s with pc := s.hl }) ∧
  (∀ e : Byte, CodedAs (.jr_e e) [0x18, e] 3 ∧
    (∀ s, ∃ t, exec (.jr_e e) s = .next t ∧ (t.pc.toNat : Int) = ((s.pc.toNat : Int) + e.toInt) % 65536 ∧
      t = { s with pc := t.pc }) ∧
    ∀ cc : Cond, CodedAsIf (Forms.jrCond cc e) [byteOf (0x20 + 8 * cc.code), e] cc 3 2 ∧
      ∀ s, ∃ t, exec (Forms.jrCond cc e) s = .next t ∧
        (t.pc.toNat : Int) = (if s.cond cc then ((s.pc.toNat : Int) + e.toInt) % 65536 else s.pc.toNat) ∧
        t = { s with pc := t.pc })

/-- Calls and restarts (R246, R247, R251): PC pushed, high byte first, then the target. -/
def Obligations.CallsAndRestarts : Prop :=
  ∀ s : State,
    let pushed (target : Word) : State :=
      { (s.memWrite (s.sp - 1) (hiByte s.pc)).memWrite (s.sp - 2) (loByte s.pc) with
        sp := s.sp - 2, pc := target }
    (∀ nn : Word, CodedAs (.call_nn nn) [0xCD, loByte nn, hiByte nn] 6 ∧
      exec (.call_nn nn) s = .next (pushed nn) ∧
      ∀ cc : Cond, CodedAsIf (Forms.callCond cc nn) [byteOf (0xC4 + 8 * cc.code), loByte nn, hiByte nn] cc 6 3 ∧
        exec (Forms.callCond cc nn) s = .next (if s.cond cc then pushed nn else s)) ∧
    (∀ y : Oct, CodedAs (Forms.rst y) [byteOf (0xC7 + 8 * y.toNat)] 4 ∧
      exec (Forms.rst y) s = .next (pushed (BitVec.ofNat 16 (8 * y.toNat))))

/-- Returns (R248, R249, R250): low byte from SP, high byte from SP+1; RETI also sets IME at once (the spec's
decision D7). -/
def Obligations.Returns : Prop :=
  CodedAs .ret [0xC9] 4 ∧ CodedAs .reti [0xD9] 4 ∧
  (∀ cc : Cond, CodedAsIf (Forms.retCond cc) [byteOf (0xC0 + 8 * cc.code)] cc 5 2 ∧
    ∀ s, s.cond cc = false → exec (Forms.retCond cc) s = .next s) ∧
  ∀ (s : State),
    (∀ lo hi, s.memRead s.sp = .ok lo → s.memRead (s.sp + 1) = .ok hi →
      let popped : State := { s with sp := s.sp + 2, pc := word hi lo }
      exec .ret s = .next popped ∧
      exec .reti s = .next { popped with ime := true, eiCountdown := 0 } ∧
      ∀ cc, s.cond cc = true → exec (Forms.retCond cc) s = .next popped) ∧
    (∀ i : Instr, (i = .ret ∨ i = .reti ∨ ∃ cc, i = Forms.retCond cc ∧ s.cond cc = true) →
      (∀ r, s.memRead s.sp = .error r → exec i s = .next { s with fault := some r }) ∧
      (∀ lo r, s.memRead s.sp = .ok lo → s.memRead (s.sp + 1) = .error r →
        exec i s = .next { s with sp := s.sp + 1, fault := some r }))

/-! ### System instructions -/

/-- NOP, HALT, STOP, DI, EI (R255 to R259; the spec's decisions D7, D8, D9). -/
def Obligations.SystemInstructions : Prop :=
  CodedAs .nop [0x00] 1 ∧ CodedAs .halt [0x76] 1 ∧ (∀ n, CodedAs (.stop n) [0x10, n] 1) ∧
  CodedAs .di [0xF3] 1 ∧ CodedAs .ei [0xFB] 1 ∧
  ∀ s : State,
    exec .nop s = .next s ∧
    exec .halt s = .next { s with halted := true } ∧
    (∀ n, exec (.stop n) s = .next { s with stopped := true }) ∧
    exec .di s = .next { s with ime := false, eiCountdown := 0 } ∧
    (s.params.eiDelay = 0 → exec .ei s = .next { s with ime := true }) ∧
    (s.params.eiDelay = 1 → exec .ei s = .next { s with eiCountdown := if s.eiCountdown = 0 then 2 else s.eiCountdown })

/-! ### Time -/

/-- The scanline counter (R286; the spec's decisions D10, D39): the loop, and one pass of it. -/
def Obligations.ScanlineCounter : Prop :=
  ∀ (s : State) (n : Nat), 0 < s.params.lyPeriod →
    (s.lyCounter + n < s.params.lyPeriod → s.lyAdvance n = { s with lyCounter := s.lyCounter + n }) ∧
    (s.params.lyPeriod ≤ s.lyCounter + n →
      ∃ u : State, u.ly.toNat = (s.ly.toNat + 1) % 154 ∧
        u.iflag = (if u.ly = 144 then s.iflag ||| 0x01 else s.iflag) ∧
        u.vblankEvent = (s.vblankEvent || decide (u.ly = 144)) ∧
        (∀ a, a ≠ 0xFF44 → a ≠ 0xFF0F → u.cell a = s.cell a) ∧
        u = { s with mem := u.mem, vblankEvent := u.vblankEvent, lyCounter := u.lyCounter } ∧
        u.lyCounter = s.lyCounter + n - s.params.lyPeriod ∧ s.lyAdvance n = u.lyAdvance 0)

/-- The divider (R287; the spec's decision D12): the loop, and one pass of it. -/
def Obligations.DividerCounter : Prop :=
  ∀ (s : State) (n : Nat), 0 < s.params.divPeriod →
    (s.divCounter + n < s.params.divPeriod → s.divAdvance n = { s with divCounter := s.divCounter + n }) ∧
    (s.params.divPeriod ≤ s.divCounter + n →
      ∃ u : State, u.div.toNat = (s.div.toNat + 1) % 256 ∧
        (∀ a, a ≠ 0xFF04 → u.cell a = s.cell a) ∧
        u = { s with mem := u.mem, divCounter := u.divCounter } ∧
        u.divCounter = s.divCounter + n - s.params.divPeriod ∧ s.divAdvance n = u.divAdvance 0)

/-- The timer (R288; the spec's decision D12): stopped while TAC bit 2 is clear; else the loop, and one pass of it with the reload from TMA
and the request on overflow. -/
def Obligations.TimerCounter : Prop :=
  ∀ (s : State) (n : Nat),
    let q := s.params.timaPeriod
    let p := s.timaPeriod
    (s.tac.getLsbD 2 = false → s.timaAdvance n = s) ∧
    (s.tac.toNat % 4 = 0 → p = q.p0) ∧ (s.tac.toNat % 4 = 1 → p = q.p1) ∧
    (s.tac.toNat % 4 = 2 → p = q.p2) ∧ (s.tac.toNat % 4 = 3 → p = q.p3) ∧
    (s.tac.getLsbD 2 = true → 0 < p →
      (s.timaCounter + n < p → s.timaAdvance n = { s with timaCounter := s.timaCounter + n }) ∧
      (p ≤ s.timaCounter + n →
        ∃ u : State, (s.tima = 0xFF → u.tima = s.tma ∧ u.iflag = s.iflag ||| 0x04) ∧
          (s.tima ≠ 0xFF → u.tima.toNat = s.tima.toNat + 1 ∧ u.iflag = s.iflag) ∧
          (∀ a, a ≠ 0xFF05 → a ≠ 0xFF0F → u.cell a = s.cell a) ∧
          u = { s with mem := u.mem, timaCounter := u.timaCounter } ∧
          u.timaCounter = s.timaCounter + n - p ∧ s.timaAdvance n = u.timaAdvance 0))

/-! ### The host -/

/-- The host moves (R295; the spec's decision D20). -/
def Obligations.HostMoves : Prop :=
  ∀ s : State,
    (∀ b, ∃ t, s.hostMove (.keypad b) = some t ∧ t.p1 = b ∧ t.stopped = false ∧
      (∀ a, a ≠ 0xFF00 → t.cell a = s.cell a) ∧ t = { s with mem := t.mem, stopped := false }) ∧
    s.hostMove .observe = some s ∧
    s.hostMove .clearVramDirty = some { s with vramDirty := false } ∧
    s.hostMove .clearLcdcDirty = some { s with lcdcDirty := false } ∧
    (s.vblankEvent = true → s.hostMove .consumeVblank = some { s with vblankEvent := false }) ∧
    (s.vblankEvent = false → s.hostMove .consumeVblank = none) ∧
    (∀ p, s.hostMove (.reset p) = some (State.resetOf p))

/-- The frame loop (R296): how a frame ends, and that a paint request is sent at most once while the host paints.
The fuel is the model's (notes/assumptions/17.md). -/
def Obligations.FrameLoop : Prop :=
  ∀ (k : Nat) (stopPc : Option Word) (v : RunLoop) (s : State),
    (∀ r, s.fault = some r → runFrame (k + 1) stopPc v s = { outcome := .faulted r, loop := v, state := s }) ∧
    (s.fault = none → s.stopped = true →
      runFrame (k + 1) stopPc v s = { outcome := .waitingForHost, loop := v, state := s }) ∧
    (s.Running → stopPc = some s.pc → runFrame (k + 1) stopPc v s =
      { outcome := .ended, loop := { v with events := .ended :: v.events }, state := s }) ∧
    (∀ t, s.Running → stopPc ≠ some s.pc → step s = .next t →
      (t.vblankEvent = true → runFrame (k + 1) stopPc v s =
        { outcome := .frameDone
          loop := if v.isPainting then v else { isPainting := true, events := .paintFrame :: v.events }
          state := { t with vblankEvent := false } }) ∧
      (t.vblankEvent = false → runFrame (k + 1) stopPc v s = runFrame k stopPc v t))
end

