-- ==== Sys2Proof/Laws/Bits.lean ====
section
/-! SUPPORT. The laws of bytes and words: a word is its two bytes, sign extension. -/

namespace Sys2Proof.Machine

/-- A word is the join of its two bytes (00_scope.md R5). -/
@[simp] theorem word_hi_lo (w : Word) : word (hiByte w) (loByte w) = w := by
  unfold word hiByte loByte
  ext i hi
  simp
  grind

@[simp] theorem hiByte_word (h l : Byte) : hiByte (word h l) = h := by
  unfold word hiByte
  ext i hi
  simp
  grind

@[simp] theorem loByte_word (h l : Byte) : loByte (word h l) = l := by
  unfold word loByte
  ext i hi
  simp
  grind

/-- The value of `word(h, l)`. -/
theorem word_toNat (h l : Byte) : (word h l).toNat = h.toNat * 256 + l.toNat := by
  unfold word
  rw [show (h.setWidth 16 <<< 8 ||| l.setWidth 16) = h.setWidth 16 <<< 8 + l.setWidth 16 from ?_]
  · simp [BitVec.toNat_add, Nat.shiftLeft_eq]; omega
  · symm; apply BitVec.add_eq_or_of_and_eq_zero; ext i hi; simp; grind

/-- `sext_16` is two's-complement sign extension (00_scope.md R6). -/
theorem sext16_eq (e : Byte) : sext16 e = e.signExtend 16 := by
  revert e; decide

theorem sext16_toInt (e : Byte) : (sext16 e).toInt = e.toInt := by
  revert e; decide

end Sys2Proof.Machine
end

