-- ==== Sys2Proof/Laws/Memory.lean ====
section
/-! SUPPORT. The laws of a byte store: reading after writing, that a write leaves every other address alone, and
that writing keeps the canonical form. The reading laws need no canonical form. -/

namespace Sys2Proof

@[simp] theorem Memory.get_nil (a : Nat) : Memory.get [] a = Memory.unlisted := rfl

theorem Memory.get_cons (c : Host.Cell) (m : Memory) (a : Nat) :
    Memory.get (c :: m) a = if c.1 = a then c.2 else Memory.get m a := rfl

theorem Memory.get_erase_same (m : Memory) (a : Nat) :
    Memory.get (Memory.erase m a) a = Memory.unlisted := by
  induction m with
  | nil => rfl
  | cons c rest ih =>
    by_cases h : c.1 = a
    · simpa [Memory.erase, h] using ih
    · simpa [Memory.erase, h, Memory.get_cons] using ih

theorem Memory.get_erase_other (m : Memory) {a b : Nat} (hb : b ≠ a) :
    Memory.get (Memory.erase m a) b = Memory.get m b := by
  induction m with
  | nil => rfl
  | cons c rest ih =>
    by_cases h : c.1 = a
    · have hc : c.1 ≠ b := by omega
      simpa [Memory.erase, h, Memory.get_cons, hc, hb.symm] using ih
    · simp only [Memory.erase] at ih ⊢
      simp [h, Memory.get_cons, ih]

theorem Memory.get_insert_same (m : Memory) (a : Nat) (v : Byte) :
    Memory.get (Memory.insert m a v) a = v := by
  induction m with
  | nil => simp [Memory.insert, Memory.get_cons]
  | cons c rest ih =>
    unfold Memory.insert
    split
    · simp [Memory.get_cons]
    · split
      · simp [Memory.get_cons]
      · have : c.1 ≠ a := by omega
        simp [Memory.get_cons, this, ih]

theorem Memory.get_insert_other (m : Memory) {a b : Nat} (hb : b ≠ a) (v : Byte) :
    Memory.get (Memory.insert m a v) b = Memory.get m b := by
  induction m with
  | nil => simp [Memory.insert, Memory.get_cons, hb.symm]
  | cons c rest ih =>
    unfold Memory.insert
    split
    · simp [Memory.get_cons, hb.symm]
    · split
      · have : c.1 ≠ b := by omega
        simp [Memory.get_cons, this, hb.symm]
      · simp [Memory.get_cons, ih]

/-- A read after a write to the same address gives the value written. -/
@[simp] theorem Memory.get_set_same (m : Memory) (a : Nat) (v : Byte) :
    Memory.get (Memory.set m a v) a = v := by
  unfold Memory.set
  split
  · next h => rw [Memory.get_erase_same, h]
  · exact Memory.get_insert_same m a v

/-- A write leaves every other address alone. -/
theorem Memory.get_set_other (m : Memory) {a b : Nat} (hb : b ≠ a) (v : Byte) :
    Memory.get (Memory.set m a v) b = Memory.get m b := by
  unfold Memory.set
  split
  · exact Memory.get_erase_other m hb
  · exact Memory.get_insert_other m hb v

theorem Memory.get_set (m : Memory) (a b : Nat) (v : Byte) :
    Memory.get (Memory.set m a v) b = if b = a then v else Memory.get m b := by
  split
  · next h => rw [h, Memory.get_set_same]
  · next h => exact Memory.get_set_other m h v

/-! ### The entries after a write -/

theorem Memory.mem_erase {m : Memory} {a : Nat} {c : Host.Cell} (h : c ∈ Memory.erase m a) : c ∈ m :=
  (List.mem_filter.1 h).1

theorem Memory.mem_insert {m : Memory} {a : Nat} {v : Byte} {c : Host.Cell}
    (h : c ∈ Memory.insert m a v) : c = (a, v) ∨ c ∈ m := by
  induction m with
  | nil => exact .inl (by simpa [Memory.insert] using h)
  | cons d rest ih =>
    unfold Memory.insert at h
    split at h
    · simpa using h
    · split at h
      · rcases List.mem_cons.1 h with h | h
        · exact .inl h
        · exact .inr (List.mem_cons_of_mem _ h)
      · rcases List.mem_cons.1 h with h | h
        · exact .inr (by simp [h])
        · exact (ih h).imp id (List.mem_cons_of_mem _)

/-- Every entry after a write is the one written or an old one. -/
theorem Memory.mem_set {m : Memory} {a : Nat} {v : Byte} {c : Host.Cell}
    (h : c ∈ Memory.set m a v) : c = (a, v) ∨ c ∈ m := by
  unfold Memory.set at h
  split at h
  · exact .inr (Memory.mem_erase h)
  · exact Memory.mem_insert h

/-- A property of addresses that holds of the written one and of every old entry holds of every entry. -/
theorem Memory.keys_set {m : Memory} {a : Nat} {v : Byte} {p : Nat → Prop} (ha : p a)
    (hm : ∀ c ∈ m, p c.1) : ∀ c ∈ Memory.set m a v, p c.1 := by
  intro c hc
  rcases Memory.mem_set hc with rfl | h
  · exact ha
  · exact hm c h

/-! ### The canonical form -/

theorem Memory.wf_nil : Memory.wf [] := by simp [Memory.wf]

theorem Memory.wf_erase {m : Memory} (h : Memory.wf m) (a : Nat) : Memory.wf (Memory.erase m a) :=
  ⟨h.1.filter _, fun c hc => h.2 c (Memory.mem_erase hc)⟩

theorem Memory.wf_insert {m : Memory} (h : Memory.wf m) (a : Nat) {v : Byte} (hv : v ≠ Memory.unlisted) :
    Memory.wf (Memory.insert m a v) := by
  refine ⟨?_, fun c hc => ?_⟩
  · have hs := h.1
    clear h
    induction m with
    | nil => simp [Memory.insert]
    | cons c rest ih =>
      rw [List.pairwise_cons] at hs
      unfold Memory.insert
      split
      · next hlt =>
        refine List.pairwise_cons.2 ⟨fun d hd => ?_, List.pairwise_cons.2 hs⟩
        rcases List.mem_cons.1 hd with rfl | hd
        · exact hlt
        · exact Nat.lt_trans hlt (hs.1 d hd)
      · split
        · next heq => exact List.pairwise_cons.2 ⟨fun d hd => heq ▸ hs.1 d hd, hs.2⟩
        · refine List.pairwise_cons.2 ⟨fun d hd => ?_, ih hs.2⟩
          rcases Memory.mem_insert hd with rfl | hd
          · show c.1 < a
            omega
          · exact hs.1 d hd
  · rcases Memory.mem_insert hc with rfl | hc
    · exact hv
    · exact h.2 c hc

/-- Every write keeps the canonical form. -/
theorem Memory.wf_set {m : Memory} (h : Memory.wf m) (a : Nat) (v : Byte) :
    Memory.wf (Memory.set m a v) := by
  unfold Memory.set
  split
  · exact Memory.wf_erase h a
  · next hv => exact Memory.wf_insert h a hv

/-- Installing a list of cells by writes keeps the canonical form. -/
theorem Memory.wf_foldl_set (cells : List Host.Cell) {m : Memory} (h : Memory.wf m) :
    Memory.wf (List.foldl (fun m c => Memory.set m c.1 c.2) m cells) := by
  induction cells generalizing m with
  | nil => exact h
  | cons c rest ih => exact ih (Memory.wf_set h c.1 c.2)

theorem Memory.keys_foldl_set (cells : List Host.Cell) {m : Memory} {p : Nat → Prop}
    (hc : ∀ c ∈ cells, p c.1) (hm : ∀ c ∈ m, p c.1) :
    ∀ c ∈ List.foldl (fun m c => Memory.set m c.1 c.2) m cells, p c.1 := by
  induction cells generalizing m with
  | nil => exact hm
  | cons c rest ih =>
    exact ih (fun d hd => hc d (List.mem_cons_of_mem _ hd))
      (Memory.keys_set (hc c (by simp)) hm)

end Sys2Proof
end

