-- ==== Sys2Proof/Laws/State.lean ====
section
/-! SUPPORT. One lemma per field per named update of the state, and what each update writes. -/

namespace Sys2Proof.Machine

/-! ### setReg (10_state.md R20) -/

@[simp] theorem State.setReg_f (s : State) (r : Reg8) (v : Byte) : (s.setReg r v).f = s.f := by cases r <;> rfl
@[simp] theorem State.setReg_sp (s : State) (r : Reg8) (v : Byte) : (s.setReg r v).sp = s.sp := by cases r <;> rfl
@[simp] theorem State.setReg_pc (s : State) (r : Reg8) (v : Byte) : (s.setReg r v).pc = s.pc := by cases r <;> rfl
@[simp] theorem State.setReg_ime (s : State) (r : Reg8) (v : Byte) : (s.setReg r v).ime = s.ime := by cases r <;> rfl
@[simp] theorem State.setReg_eiCountdown (s : State) (r : Reg8) (v : Byte) : (s.setReg r v).eiCountdown = s.eiCountdown := by cases r <;> rfl
@[simp] theorem State.setReg_halted (s : State) (r : Reg8) (v : Byte) : (s.setReg r v).halted = s.halted := by cases r <;> rfl
@[simp] theorem State.setReg_stopped (s : State) (r : Reg8) (v : Byte) : (s.setReg r v).stopped = s.stopped := by cases r <;> rfl
@[simp] theorem State.setReg_fault (s : State) (r : Reg8) (v : Byte) : (s.setReg r v).fault = s.fault := by cases r <;> rfl
@[simp] theorem State.setReg_m (s : State) (r : Reg8) (v : Byte) : (s.setReg r v).m = s.m := by cases r <;> rfl
@[simp] theorem State.setReg_mem (s : State) (r : Reg8) (v : Byte) : (s.setReg r v).mem = s.mem := by cases r <;> rfl
@[simp] theorem State.setReg_inBios (s : State) (r : Reg8) (v : Byte) : (s.setReg r v).inBios = s.inBios := by cases r <;> rfl
@[simp] theorem State.setReg_mbc (s : State) (r : Reg8) (v : Byte) : (s.setReg r v).mbc = s.mbc := by cases r <;> rfl
@[simp] theorem State.setReg_extRam (s : State) (r : Reg8) (v : Byte) : (s.setReg r v).extRam = s.extRam := by cases r <;> rfl
@[simp] theorem State.setReg_lyCounter (s : State) (r : Reg8) (v : Byte) : (s.setReg r v).lyCounter = s.lyCounter := by cases r <;> rfl
@[simp] theorem State.setReg_divCounter (s : State) (r : Reg8) (v : Byte) : (s.setReg r v).divCounter = s.divCounter := by cases r <;> rfl
@[simp] theorem State.setReg_timaCounter (s : State) (r : Reg8) (v : Byte) : (s.setReg r v).timaCounter = s.timaCounter := by cases r <;> rfl
@[simp] theorem State.setReg_vramDirty (s : State) (r : Reg8) (v : Byte) : (s.setReg r v).vramDirty = s.vramDirty := by cases r <;> rfl
@[simp] theorem State.setReg_lcdcDirty (s : State) (r : Reg8) (v : Byte) : (s.setReg r v).lcdcDirty = s.lcdcDirty := by cases r <;> rfl
@[simp] theorem State.setReg_vblankEvent (s : State) (r : Reg8) (v : Byte) : (s.setReg r v).vblankEvent = s.vblankEvent := by cases r <;> rfl
@[simp] theorem State.setReg_params (s : State) (r : Reg8) (v : Byte) : (s.setReg r v).params = s.params := by cases r <;> rfl

/-- A register write reads back, and leaves the other registers alone. -/
theorem State.reg_setReg (s : State) (r q : Reg8) (v : Byte) :
    (s.setReg r v).reg q = if q = r then v else s.reg q := by
  cases r <;> cases q <;> rfl

@[simp] theorem State.reg_setReg_same (s : State) (r : Reg8) (v : Byte) : (s.setReg r v).reg r = v := by
  cases r <;> rfl

theorem State.reg_setReg_other (s : State) {r q : Reg8} (h : q ≠ r) (v : Byte) :
    (s.setReg r v).reg q = s.reg q := by
  rw [State.reg_setReg, if_neg h]

/-! ### setFlags (R22) -/

@[simp] theorem State.setFlags_a (s : State) (z n h c : Bool) : (s.setFlags z n h c).a = s.a := rfl
@[simp] theorem State.setFlags_b (s : State) (z n h c : Bool) : (s.setFlags z n h c).b = s.b := rfl
@[simp] theorem State.setFlags_c (s : State) (z n h c : Bool) : (s.setFlags z n h c).c = s.c := rfl
@[simp] theorem State.setFlags_d (s : State) (z n h c : Bool) : (s.setFlags z n h c).d = s.d := rfl
@[simp] theorem State.setFlags_e (s : State) (z n h c : Bool) : (s.setFlags z n h c).e = s.e := rfl
@[simp] theorem State.setFlags_h (s : State) (z n h c : Bool) : (s.setFlags z n h c).h = s.h := rfl
@[simp] theorem State.setFlags_l (s : State) (z n h c : Bool) : (s.setFlags z n h c).l = s.l := rfl
@[simp] theorem State.setFlags_sp (s : State) (z n h c : Bool) : (s.setFlags z n h c).sp = s.sp := rfl
@[simp] theorem State.setFlags_pc (s : State) (z n h c : Bool) : (s.setFlags z n h c).pc = s.pc := rfl
@[simp] theorem State.setFlags_ime (s : State) (z n h c : Bool) : (s.setFlags z n h c).ime = s.ime := rfl
@[simp] theorem State.setFlags_eiCountdown (s : State) (z n h c : Bool) : (s.setFlags z n h c).eiCountdown = s.eiCountdown := rfl
@[simp] theorem State.setFlags_halted (s : State) (z n h c : Bool) : (s.setFlags z n h c).halted = s.halted := rfl
@[simp] theorem State.setFlags_stopped (s : State) (z n h c : Bool) : (s.setFlags z n h c).stopped = s.stopped := rfl
@[simp] theorem State.setFlags_fault (s : State) (z n h c : Bool) : (s.setFlags z n h c).fault = s.fault := rfl
@[simp] theorem State.setFlags_m (s : State) (z n h c : Bool) : (s.setFlags z n h c).m = s.m := rfl
@[simp] theorem State.setFlags_mem (s : State) (z n h c : Bool) : (s.setFlags z n h c).mem = s.mem := rfl
@[simp] theorem State.setFlags_inBios (s : State) (z n h c : Bool) : (s.setFlags z n h c).inBios = s.inBios := rfl
@[simp] theorem State.setFlags_mbc (s : State) (z n h c : Bool) : (s.setFlags z n h c).mbc = s.mbc := rfl
@[simp] theorem State.setFlags_extRam (s : State) (z n h c : Bool) : (s.setFlags z n h c).extRam = s.extRam := rfl
@[simp] theorem State.setFlags_lyCounter (s : State) (z n h c : Bool) : (s.setFlags z n h c).lyCounter = s.lyCounter := rfl
@[simp] theorem State.setFlags_divCounter (s : State) (z n h c : Bool) : (s.setFlags z n h c).divCounter = s.divCounter := rfl
@[simp] theorem State.setFlags_timaCounter (s : State) (z n h c : Bool) : (s.setFlags z n h c).timaCounter = s.timaCounter := rfl
@[simp] theorem State.setFlags_vramDirty (s : State) (z n h c : Bool) : (s.setFlags z n h c).vramDirty = s.vramDirty := rfl
@[simp] theorem State.setFlags_lcdcDirty (s : State) (z n h c : Bool) : (s.setFlags z n h c).lcdcDirty = s.lcdcDirty := rfl
@[simp] theorem State.setFlags_vblankEvent (s : State) (z n h c : Bool) : (s.setFlags z n h c).vblankEvent = s.vblankEvent := rfl
@[simp] theorem State.setFlags_params (s : State) (z n h c : Bool) : (s.setFlags z n h c).params = s.params := rfl

@[simp] theorem State.reg_setFlags (s : State) (z n h c : Bool) (r : Reg8) :
    (s.setFlags z n h c).reg r = s.reg r := by cases r <;> rfl

theorem flagsByte_z (f : Byte) (z n h c : Bool) : (flagsByte f z n h c).getLsbD 7 = z := by
  cases z <;> cases n <;> cases h <;> cases c <;> simp [flagsByte, maskIf]

theorem flagsByte_n (f : Byte) (z n h c : Bool) : (flagsByte f z n h c).getLsbD 6 = n := by
  cases z <;> cases n <;> cases h <;> cases c <;> simp [flagsByte, maskIf]

theorem flagsByte_h (f : Byte) (z n h c : Bool) : (flagsByte f z n h c).getLsbD 5 = h := by
  cases z <;> cases n <;> cases h <;> cases c <;> simp [flagsByte, maskIf]

theorem flagsByte_c (f : Byte) (z n h c : Bool) : (flagsByte f z n h c).getLsbD 4 = c := by
  cases z <;> cases n <;> cases h <;> cases c <;> simp [flagsByte, maskIf]

/-- A flag write leaves bits 3..0 as they were. -/
theorem flagsByte_low (f : Byte) (z n h c : Bool) : flagsByte f z n h c &&& 0x0F = f &&& 0x0F := by
  revert f z n h c; decide

@[simp] theorem State.flagZ_setFlags (s : State) (z n h c : Bool) : (s.setFlags z n h c).flagZ = z :=
  flagsByte_z s.f z n h c
@[simp] theorem State.flagN_setFlags (s : State) (z n h c : Bool) : (s.setFlags z n h c).flagN = n :=
  flagsByte_n s.f z n h c
@[simp] theorem State.flagH_setFlags (s : State) (z n h c : Bool) : (s.setFlags z n h c).flagH = h :=
  flagsByte_h s.f z n h c
@[simp] theorem State.flagC_setFlags (s : State) (z n h c : Bool) : (s.setFlags z n h c).flagC = c :=
  flagsByte_c s.f z n h c

/-! ### setHl, setPair, setStackPair (R21) -/

@[simp] theorem State.setHl_a (s : State) (w : Word) : (s.setHl w).a = s.a := rfl
@[simp] theorem State.setHl_b (s : State) (w : Word) : (s.setHl w).b = s.b := rfl
@[simp] theorem State.setHl_c (s : State) (w : Word) : (s.setHl w).c = s.c := rfl
@[simp] theorem State.setHl_d (s : State) (w : Word) : (s.setHl w).d = s.d := rfl
@[simp] theorem State.setHl_e (s : State) (w : Word) : (s.setHl w).e = s.e := rfl
@[simp] theorem State.setHl_f (s : State) (w : Word) : (s.setHl w).f = s.f := rfl
@[simp] theorem State.setHl_sp (s : State) (w : Word) : (s.setHl w).sp = s.sp := rfl
@[simp] theorem State.setHl_pc (s : State) (w : Word) : (s.setHl w).pc = s.pc := rfl
@[simp] theorem State.setHl_ime (s : State) (w : Word) : (s.setHl w).ime = s.ime := rfl
@[simp] theorem State.setHl_eiCountdown (s : State) (w : Word) : (s.setHl w).eiCountdown = s.eiCountdown := rfl
@[simp] theorem State.setHl_halted (s : State) (w : Word) : (s.setHl w).halted = s.halted := rfl
@[simp] theorem State.setHl_stopped (s : State) (w : Word) : (s.setHl w).stopped = s.stopped := rfl
@[simp] theorem State.setHl_fault (s : State) (w : Word) : (s.setHl w).fault = s.fault := rfl
@[simp] theorem State.setHl_m (s : State) (w : Word) : (s.setHl w).m = s.m := rfl
@[simp] theorem State.setHl_mem (s : State) (w : Word) : (s.setHl w).mem = s.mem := rfl
@[simp] theorem State.setHl_inBios (s : State) (w : Word) : (s.setHl w).inBios = s.inBios := rfl
@[simp] theorem State.setHl_mbc (s : State) (w : Word) : (s.setHl w).mbc = s.mbc := rfl
@[simp] theorem State.setHl_extRam (s : State) (w : Word) : (s.setHl w).extRam = s.extRam := rfl
@[simp] theorem State.setHl_lyCounter (s : State) (w : Word) : (s.setHl w).lyCounter = s.lyCounter := rfl
@[simp] theorem State.setHl_divCounter (s : State) (w : Word) : (s.setHl w).divCounter = s.divCounter := rfl
@[simp] theorem State.setHl_timaCounter (s : State) (w : Word) : (s.setHl w).timaCounter = s.timaCounter := rfl
@[simp] theorem State.setHl_vramDirty (s : State) (w : Word) : (s.setHl w).vramDirty = s.vramDirty := rfl
@[simp] theorem State.setHl_lcdcDirty (s : State) (w : Word) : (s.setHl w).lcdcDirty = s.lcdcDirty := rfl
@[simp] theorem State.setHl_vblankEvent (s : State) (w : Word) : (s.setHl w).vblankEvent = s.vblankEvent := rfl
@[simp] theorem State.setHl_params (s : State) (w : Word) : (s.setHl w).params = s.params := rfl

@[simp] theorem State.setPair_a (s : State) (p : Pair) (w : Word) : (s.setPair p w).a = s.a := by cases p <;> rfl
@[simp] theorem State.setPair_f (s : State) (p : Pair) (w : Word) : (s.setPair p w).f = s.f := by cases p <;> rfl
@[simp] theorem State.setPair_pc (s : State) (p : Pair) (w : Word) : (s.setPair p w).pc = s.pc := by cases p <;> rfl
@[simp] theorem State.setPair_ime (s : State) (p : Pair) (w : Word) : (s.setPair p w).ime = s.ime := by cases p <;> rfl
@[simp] theorem State.setPair_eiCountdown (s : State) (p : Pair) (w : Word) : (s.setPair p w).eiCountdown = s.eiCountdown := by cases p <;> rfl
@[simp] theorem State.setPair_halted (s : State) (p : Pair) (w : Word) : (s.setPair p w).halted = s.halted := by cases p <;> rfl
@[simp] theorem State.setPair_stopped (s : State) (p : Pair) (w : Word) : (s.setPair p w).stopped = s.stopped := by cases p <;> rfl
@[simp] theorem State.setPair_fault (s : State) (p : Pair) (w : Word) : (s.setPair p w).fault = s.fault := by cases p <;> rfl
@[simp] theorem State.setPair_m (s : State) (p : Pair) (w : Word) : (s.setPair p w).m = s.m := by cases p <;> rfl
@[simp] theorem State.setPair_mem (s : State) (p : Pair) (w : Word) : (s.setPair p w).mem = s.mem := by cases p <;> rfl
@[simp] theorem State.setPair_inBios (s : State) (p : Pair) (w : Word) : (s.setPair p w).inBios = s.inBios := by cases p <;> rfl
@[simp] theorem State.setPair_mbc (s : State) (p : Pair) (w : Word) : (s.setPair p w).mbc = s.mbc := by cases p <;> rfl
@[simp] theorem State.setPair_extRam (s : State) (p : Pair) (w : Word) : (s.setPair p w).extRam = s.extRam := by cases p <;> rfl
@[simp] theorem State.setPair_lyCounter (s : State) (p : Pair) (w : Word) : (s.setPair p w).lyCounter = s.lyCounter := by cases p <;> rfl
@[simp] theorem State.setPair_divCounter (s : State) (p : Pair) (w : Word) : (s.setPair p w).divCounter = s.divCounter := by cases p <;> rfl
@[simp] theorem State.setPair_timaCounter (s : State) (p : Pair) (w : Word) : (s.setPair p w).timaCounter = s.timaCounter := by cases p <;> rfl
@[simp] theorem State.setPair_vramDirty (s : State) (p : Pair) (w : Word) : (s.setPair p w).vramDirty = s.vramDirty := by cases p <;> rfl
@[simp] theorem State.setPair_lcdcDirty (s : State) (p : Pair) (w : Word) : (s.setPair p w).lcdcDirty = s.lcdcDirty := by cases p <;> rfl
@[simp] theorem State.setPair_vblankEvent (s : State) (p : Pair) (w : Word) : (s.setPair p w).vblankEvent = s.vblankEvent := by cases p <;> rfl
@[simp] theorem State.setPair_params (s : State) (p : Pair) (w : Word) : (s.setPair p w).params = s.params := by cases p <;> rfl

@[simp] theorem State.setStackPair_sp (s : State) (q : StackPair) (w : Word) : (s.setStackPair q w).sp = s.sp := by cases q <;> rfl
@[simp] theorem State.setStackPair_pc (s : State) (q : StackPair) (w : Word) : (s.setStackPair q w).pc = s.pc := by cases q <;> rfl
@[simp] theorem State.setStackPair_ime (s : State) (q : StackPair) (w : Word) : (s.setStackPair q w).ime = s.ime := by cases q <;> rfl
@[simp] theorem State.setStackPair_eiCountdown (s : State) (q : StackPair) (w : Word) : (s.setStackPair q w).eiCountdown = s.eiCountdown := by cases q <;> rfl
@[simp] theorem State.setStackPair_halted (s : State) (q : StackPair) (w : Word) : (s.setStackPair q w).halted = s.halted := by cases q <;> rfl
@[simp] theorem State.setStackPair_stopped (s : State) (q : StackPair) (w : Word) : (s.setStackPair q w).stopped = s.stopped := by cases q <;> rfl
@[simp] theorem State.setStackPair_fault (s : State) (q : StackPair) (w : Word) : (s.setStackPair q w).fault = s.fault := by cases q <;> rfl
@[simp] theorem State.setStackPair_m (s : State) (q : StackPair) (w : Word) : (s.setStackPair q w).m = s.m := by cases q <;> rfl
@[simp] theorem State.setStackPair_mem (s : State) (q : StackPair) (w : Word) : (s.setStackPair q w).mem = s.mem := by cases q <;> rfl
@[simp] theorem State.setStackPair_inBios (s : State) (q : StackPair) (w : Word) : (s.setStackPair q w).inBios = s.inBios := by cases q <;> rfl
@[simp] theorem State.setStackPair_mbc (s : State) (q : StackPair) (w : Word) : (s.setStackPair q w).mbc = s.mbc := by cases q <;> rfl
@[simp] theorem State.setStackPair_extRam (s : State) (q : StackPair) (w : Word) : (s.setStackPair q w).extRam = s.extRam := by cases q <;> rfl
@[simp] theorem State.setStackPair_lyCounter (s : State) (q : StackPair) (w : Word) : (s.setStackPair q w).lyCounter = s.lyCounter := by cases q <;> rfl
@[simp] theorem State.setStackPair_divCounter (s : State) (q : StackPair) (w : Word) : (s.setStackPair q w).divCounter = s.divCounter := by cases q <;> rfl
@[simp] theorem State.setStackPair_timaCounter (s : State) (q : StackPair) (w : Word) : (s.setStackPair q w).timaCounter = s.timaCounter := by cases q <;> rfl
@[simp] theorem State.setStackPair_vramDirty (s : State) (q : StackPair) (w : Word) : (s.setStackPair q w).vramDirty = s.vramDirty := by cases q <;> rfl
@[simp] theorem State.setStackPair_lcdcDirty (s : State) (q : StackPair) (w : Word) : (s.setStackPair q w).lcdcDirty = s.lcdcDirty := by cases q <;> rfl
@[simp] theorem State.setStackPair_vblankEvent (s : State) (q : StackPair) (w : Word) : (s.setStackPair q w).vblankEvent = s.vblankEvent := by cases q <;> rfl
@[simp] theorem State.setStackPair_params (s : State) (q : StackPair) (w : Word) : (s.setStackPair q w).params = s.params := by cases q <;> rfl

/-- HL is written as its two registers. -/
theorem State.setHl_eq (s : State) (w : Word) :
    s.setHl w = (s.setReg .H (hiByte w)).setReg .L (loByte w) := rfl

@[simp] theorem State.hl_setHl (s : State) (w : Word) : (s.setHl w).hl = w := word_hi_lo w

/-- A pair write reads back (R21). -/
@[simp] theorem State.pair_setPair (s : State) (p : Pair) (w : Word) : (s.setPair p w).pair p = w := by
  cases p <;> first | rfl | exact word_hi_lo w

/-! ### raise (00_scope.md R7) -/

@[simp] theorem State.raise_a (s : State) (r : Fault) : (s.raise r).a = s.a := rfl
@[simp] theorem State.raise_b (s : State) (r : Fault) : (s.raise r).b = s.b := rfl
@[simp] theorem State.raise_c (s : State) (r : Fault) : (s.raise r).c = s.c := rfl
@[simp] theorem State.raise_d (s : State) (r : Fault) : (s.raise r).d = s.d := rfl
@[simp] theorem State.raise_e (s : State) (r : Fault) : (s.raise r).e = s.e := rfl
@[simp] theorem State.raise_h (s : State) (r : Fault) : (s.raise r).h = s.h := rfl
@[simp] theorem State.raise_l (s : State) (r : Fault) : (s.raise r).l = s.l := rfl
@[simp] theorem State.raise_f (s : State) (r : Fault) : (s.raise r).f = s.f := rfl
@[simp] theorem State.raise_sp (s : State) (r : Fault) : (s.raise r).sp = s.sp := rfl
@[simp] theorem State.raise_pc (s : State) (r : Fault) : (s.raise r).pc = s.pc := rfl
@[simp] theorem State.raise_ime (s : State) (r : Fault) : (s.raise r).ime = s.ime := rfl
@[simp] theorem State.raise_eiCountdown (s : State) (r : Fault) : (s.raise r).eiCountdown = s.eiCountdown := rfl
@[simp] theorem State.raise_halted (s : State) (r : Fault) : (s.raise r).halted = s.halted := rfl
@[simp] theorem State.raise_stopped (s : State) (r : Fault) : (s.raise r).stopped = s.stopped := rfl
@[simp] theorem State.raise_m (s : State) (r : Fault) : (s.raise r).m = s.m := rfl
@[simp] theorem State.raise_mem (s : State) (r : Fault) : (s.raise r).mem = s.mem := rfl
@[simp] theorem State.raise_inBios (s : State) (r : Fault) : (s.raise r).inBios = s.inBios := rfl
@[simp] theorem State.raise_mbc (s : State) (r : Fault) : (s.raise r).mbc = s.mbc := rfl
@[simp] theorem State.raise_extRam (s : State) (r : Fault) : (s.raise r).extRam = s.extRam := rfl
@[simp] theorem State.raise_lyCounter (s : State) (r : Fault) : (s.raise r).lyCounter = s.lyCounter := rfl
@[simp] theorem State.raise_divCounter (s : State) (r : Fault) : (s.raise r).divCounter = s.divCounter := rfl
@[simp] theorem State.raise_timaCounter (s : State) (r : Fault) : (s.raise r).timaCounter = s.timaCounter := rfl
@[simp] theorem State.raise_vramDirty (s : State) (r : Fault) : (s.raise r).vramDirty = s.vramDirty := rfl
@[simp] theorem State.raise_lcdcDirty (s : State) (r : Fault) : (s.raise r).lcdcDirty = s.lcdcDirty := rfl
@[simp] theorem State.raise_vblankEvent (s : State) (r : Fault) : (s.raise r).vblankEvent = s.vblankEvent := rfl
@[simp] theorem State.raise_params (s : State) (r : Fault) : (s.raise r).params = s.params := rfl

@[simp] theorem State.raise_fault (s : State) (r : Fault) : (s.raise r).fault = some r := rfl

/-! ### setCell (R31) -/

@[simp] theorem State.setCell_a (s : State) (a : Nat) (v : Byte) : (s.setCell a v).a = s.a := rfl
@[simp] theorem State.setCell_b (s : State) (a : Nat) (v : Byte) : (s.setCell a v).b = s.b := rfl
@[simp] theorem State.setCell_c (s : State) (a : Nat) (v : Byte) : (s.setCell a v).c = s.c := rfl
@[simp] theorem State.setCell_d (s : State) (a : Nat) (v : Byte) : (s.setCell a v).d = s.d := rfl
@[simp] theorem State.setCell_e (s : State) (a : Nat) (v : Byte) : (s.setCell a v).e = s.e := rfl
@[simp] theorem State.setCell_h (s : State) (a : Nat) (v : Byte) : (s.setCell a v).h = s.h := rfl
@[simp] theorem State.setCell_l (s : State) (a : Nat) (v : Byte) : (s.setCell a v).l = s.l := rfl
@[simp] theorem State.setCell_f (s : State) (a : Nat) (v : Byte) : (s.setCell a v).f = s.f := rfl
@[simp] theorem State.setCell_sp (s : State) (a : Nat) (v : Byte) : (s.setCell a v).sp = s.sp := rfl
@[simp] theorem State.setCell_pc (s : State) (a : Nat) (v : Byte) : (s.setCell a v).pc = s.pc := rfl
@[simp] theorem State.setCell_ime (s : State) (a : Nat) (v : Byte) : (s.setCell a v).ime = s.ime := rfl
@[simp] theorem State.setCell_eiCountdown (s : State) (a : Nat) (v : Byte) : (s.setCell a v).eiCountdown = s.eiCountdown := rfl
@[simp] theorem State.setCell_halted (s : State) (a : Nat) (v : Byte) : (s.setCell a v).halted = s.halted := rfl
@[simp] theorem State.setCell_stopped (s : State) (a : Nat) (v : Byte) : (s.setCell a v).stopped = s.stopped := rfl
@[simp] theorem State.setCell_fault (s : State) (a : Nat) (v : Byte) : (s.setCell a v).fault = s.fault := rfl
@[simp] theorem State.setCell_m (s : State) (a : Nat) (v : Byte) : (s.setCell a v).m = s.m := rfl
@[simp] theorem State.setCell_inBios (s : State) (a : Nat) (v : Byte) : (s.setCell a v).inBios = s.inBios := rfl
@[simp] theorem State.setCell_mbc (s : State) (a : Nat) (v : Byte) : (s.setCell a v).mbc = s.mbc := rfl
@[simp] theorem State.setCell_extRam (s : State) (a : Nat) (v : Byte) : (s.setCell a v).extRam = s.extRam := rfl
@[simp] theorem State.setCell_lyCounter (s : State) (a : Nat) (v : Byte) : (s.setCell a v).lyCounter = s.lyCounter := rfl
@[simp] theorem State.setCell_divCounter (s : State) (a : Nat) (v : Byte) : (s.setCell a v).divCounter = s.divCounter := rfl
@[simp] theorem State.setCell_timaCounter (s : State) (a : Nat) (v : Byte) : (s.setCell a v).timaCounter = s.timaCounter := rfl
@[simp] theorem State.setCell_vramDirty (s : State) (a : Nat) (v : Byte) : (s.setCell a v).vramDirty = s.vramDirty := rfl
@[simp] theorem State.setCell_lcdcDirty (s : State) (a : Nat) (v : Byte) : (s.setCell a v).lcdcDirty = s.lcdcDirty := rfl
@[simp] theorem State.setCell_vblankEvent (s : State) (a : Nat) (v : Byte) : (s.setCell a v).vblankEvent = s.vblankEvent := rfl
@[simp] theorem State.setCell_params (s : State) (a : Nat) (v : Byte) : (s.setCell a v).params = s.params := rfl

@[simp] theorem State.cell_setCell_same (s : State) (a : Nat) (v : Byte) : (s.setCell a v).cell a = v :=
  Memory.get_set_same s.mem a v

theorem State.cell_setCell_other (s : State) {a b : Nat} (h : b ≠ a) (v : Byte) :
    (s.setCell a v).cell b = s.cell b := Memory.get_set_other s.mem h v

/-! ### mbcControl, extRamWrite, plainWrite, memWrite (20_memory.md R60) -/

/-- A controller write changes the bank registers alone. -/
theorem State.mbcControl_eq (s : State) (a : Nat) (v : Byte) :
    s.mbcControl a v = { s with mbc := (s.mbcControl a v).mbc } := by
  unfold State.mbcControl
  repeat' split
  all_goals rfl

/-- An external-RAM write changes the buffer alone. -/
theorem State.extRamWrite_eq (s : State) (a : Nat) (v : Byte) :
    s.extRamWrite a v = { s with extRam := (s.extRamWrite a v).extRam } := by
  unfold State.extRamWrite
  split <;> rfl

/-- All that a byte write can change. -/
theorem State.memWrite_eq (s : State) (addr : Word) (v : Byte) :
    s.memWrite addr v = { s with
      mem := (s.memWrite addr v).mem
      mbc := (s.memWrite addr v).mbc
      extRam := (s.memWrite addr v).extRam
      divCounter := (s.memWrite addr v).divCounter
      vramDirty := (s.memWrite addr v).vramDirty
      lcdcDirty := (s.memWrite addr v).lcdcDirty } := by
  unfold State.memWrite
  simp only
  split
  · rw [State.mbcControl_eq]
  split
  · rw [State.extRamWrite_eq]
  repeat' split
  all_goals rfl

@[simp] theorem State.memWrite_a (s : State) (addr : Word) (v : Byte) : (s.memWrite addr v).a = s.a := by
  rw [State.memWrite_eq]
@[simp] theorem State.memWrite_b (s : State) (addr : Word) (v : Byte) : (s.memWrite addr v).b = s.b := by
  rw [State.memWrite_eq]
@[simp] theorem State.memWrite_c (s : State) (addr : Word) (v : Byte) : (s.memWrite addr v).c = s.c := by
  rw [State.memWrite_eq]
@[simp] theorem State.memWrite_d (s : State) (addr : Word) (v : Byte) : (s.memWrite addr v).d = s.d := by
  rw [State.memWrite_eq]
@[simp] theorem State.memWrite_e (s : State) (addr : Word) (v : Byte) : (s.memWrite addr v).e = s.e := by
  rw [State.memWrite_eq]
@[simp] theorem State.memWrite_h (s : State) (addr : Word) (v : Byte) : (s.memWrite addr v).h = s.h := by
  rw [State.memWrite_eq]
@[simp] theorem State.memWrite_l (s : State) (addr : Word) (v : Byte) : (s.memWrite addr v).l = s.l := by
  rw [State.memWrite_eq]
@[simp] theorem State.memWrite_f (s : State) (addr : Word) (v : Byte) : (s.memWrite addr v).f = s.f := by
  rw [State.memWrite_eq]
@[simp] theorem State.memWrite_sp (s : State) (addr : Word) (v : Byte) : (s.memWrite addr v).sp = s.sp := by
  rw [State.memWrite_eq]
@[simp] theorem State.memWrite_pc (s : State) (addr : Word) (v : Byte) : (s.memWrite addr v).pc = s.pc := by
  rw [State.memWrite_eq]
@[simp] theorem State.memWrite_ime (s : State) (addr : Word) (v : Byte) : (s.memWrite addr v).ime = s.ime := by
  rw [State.memWrite_eq]
@[simp] theorem State.memWrite_eiCountdown (s : State) (addr : Word) (v : Byte) : (s.memWrite addr v).eiCountdown = s.eiCountdown := by
  rw [State.memWrite_eq]
@[simp] theorem State.memWrite_halted (s : State) (addr : Word) (v : Byte) : (s.memWrite addr v).halted = s.halted := by
  rw [State.memWrite_eq]
@[simp] theorem State.memWrite_stopped (s : State) (addr : Word) (v : Byte) : (s.memWrite addr v).stopped = s.stopped := by
  rw [State.memWrite_eq]
@[simp] theorem State.memWrite_fault (s : State) (addr : Word) (v : Byte) : (s.memWrite addr v).fault = s.fault := by
  rw [State.memWrite_eq]
@[simp] theorem State.memWrite_m (s : State) (addr : Word) (v : Byte) : (s.memWrite addr v).m = s.m := by
  rw [State.memWrite_eq]
@[simp] theorem State.memWrite_inBios (s : State) (addr : Word) (v : Byte) : (s.memWrite addr v).inBios = s.inBios := by
  rw [State.memWrite_eq]
@[simp] theorem State.memWrite_lyCounter (s : State) (addr : Word) (v : Byte) : (s.memWrite addr v).lyCounter = s.lyCounter := by
  rw [State.memWrite_eq]
@[simp] theorem State.memWrite_timaCounter (s : State) (addr : Word) (v : Byte) : (s.memWrite addr v).timaCounter = s.timaCounter := by
  rw [State.memWrite_eq]
@[simp] theorem State.memWrite_vblankEvent (s : State) (addr : Word) (v : Byte) : (s.memWrite addr v).vblankEvent = s.vblankEvent := by
  rw [State.memWrite_eq]
@[simp] theorem State.memWrite_params (s : State) (addr : Word) (v : Byte) : (s.memWrite addr v).params = s.params := by
  rw [State.memWrite_eq]

@[simp] theorem State.reg_memWrite (s : State) (addr : Word) (v : Byte) (r : Reg8) :
    (s.memWrite addr v).reg r = s.reg r := by cases r <;> simp [State.reg]

/-! ### push16 (41_load16.md R150) -/

@[simp] theorem State.push16_a (s : State) (w : Word) : (s.push16 w).a = s.a := by
  simp [State.push16]
@[simp] theorem State.push16_b (s : State) (w : Word) : (s.push16 w).b = s.b := by
  simp [State.push16]
@[simp] theorem State.push16_c (s : State) (w : Word) : (s.push16 w).c = s.c := by
  simp [State.push16]
@[simp] theorem State.push16_d (s : State) (w : Word) : (s.push16 w).d = s.d := by
  simp [State.push16]
@[simp] theorem State.push16_e (s : State) (w : Word) : (s.push16 w).e = s.e := by
  simp [State.push16]
@[simp] theorem State.push16_h (s : State) (w : Word) : (s.push16 w).h = s.h := by
  simp [State.push16]
@[simp] theorem State.push16_l (s : State) (w : Word) : (s.push16 w).l = s.l := by
  simp [State.push16]
@[simp] theorem State.push16_f (s : State) (w : Word) : (s.push16 w).f = s.f := by
  simp [State.push16]
@[simp] theorem State.push16_pc (s : State) (w : Word) : (s.push16 w).pc = s.pc := by
  simp [State.push16]
@[simp] theorem State.push16_ime (s : State) (w : Word) : (s.push16 w).ime = s.ime := by
  simp [State.push16]
@[simp] theorem State.push16_eiCountdown (s : State) (w : Word) : (s.push16 w).eiCountdown = s.eiCountdown := by
  simp [State.push16]
@[simp] theorem State.push16_halted (s : State) (w : Word) : (s.push16 w).halted = s.halted := by
  simp [State.push16]
@[simp] theorem State.push16_stopped (s : State) (w : Word) : (s.push16 w).stopped = s.stopped := by
  simp [State.push16]
@[simp] theorem State.push16_fault (s : State) (w : Word) : (s.push16 w).fault = s.fault := by
  simp [State.push16]
@[simp] theorem State.push16_m (s : State) (w : Word) : (s.push16 w).m = s.m := by
  simp [State.push16]
@[simp] theorem State.push16_inBios (s : State) (w : Word) : (s.push16 w).inBios = s.inBios := by
  simp [State.push16]
@[simp] theorem State.push16_lyCounter (s : State) (w : Word) : (s.push16 w).lyCounter = s.lyCounter := by
  simp [State.push16]
@[simp] theorem State.push16_timaCounter (s : State) (w : Word) : (s.push16 w).timaCounter = s.timaCounter := by
  simp [State.push16]
@[simp] theorem State.push16_vblankEvent (s : State) (w : Word) : (s.push16 w).vblankEvent = s.vblankEvent := by
  simp [State.push16]
@[simp] theorem State.push16_params (s : State) (w : Word) : (s.push16 w).params = s.params := by
  simp [State.push16]
@[simp] theorem State.push16_sp (s : State) (w : Word) : (s.push16 w).sp = s.sp - 2 := by
  simp only [State.push16, State.memWrite_sp]
  bv_omega

/-- A push is two byte writes, high byte first, with SP two lower. -/
theorem State.push16_eq (s : State) (w : Word) :
    s.push16 w =
      ({ ({ s with sp := s.sp - 1 } : State).memWrite (s.sp - 1) (hiByte w) with sp := s.sp - 1 - 1 } : State).memWrite
        (s.sp - 1 - 1) (loByte w) := by
  simp [State.push16]

/-! ### tick (60_exceptions.md R285) -/

theorem repeatState_field {α : Type} (g : State → α) {f : State → State} (hf : ∀ s, g (f s) = g s) (k : Nat)
    (s : State) : g (repeatState f k s) = g s := by
  induction k generalizing s with
  | zero => rfl
  | succ j ih => rw [repeatState, ih, hf]

/-- A property each pass keeps is kept by the loop. -/
theorem repeatState_keeps {P : State → Prop} {f : State → State} (hf : ∀ s, P s → P (f s)) (k : Nat)
    {s : State} (h : P s) : P (repeatState f k s) := by
  induction k generalizing s with
  | zero => exact h
  | succ j ih => exact ih (hf s h)

@[simp] theorem State.lyIncrement_a (s : State) : s.lyIncrement.a = s.a := by
  simp only [State.lyIncrement]; split <;> rfl
@[simp] theorem State.lyIncrement_b (s : State) : s.lyIncrement.b = s.b := by
  simp only [State.lyIncrement]; split <;> rfl
@[simp] theorem State.lyIncrement_c (s : State) : s.lyIncrement.c = s.c := by
  simp only [State.lyIncrement]; split <;> rfl
@[simp] theorem State.lyIncrement_d (s : State) : s.lyIncrement.d = s.d := by
  simp only [State.lyIncrement]; split <;> rfl
@[simp] theorem State.lyIncrement_e (s : State) : s.lyIncrement.e = s.e := by
  simp only [State.lyIncrement]; split <;> rfl
@[simp] theorem State.lyIncrement_h (s : State) : s.lyIncrement.h = s.h := by
  simp only [State.lyIncrement]; split <;> rfl
@[simp] theorem State.lyIncrement_l (s : State) : s.lyIncrement.l = s.l := by
  simp only [State.lyIncrement]; split <;> rfl
@[simp] theorem State.lyIncrement_f (s : State) : s.lyIncrement.f = s.f := by
  simp only [State.lyIncrement]; split <;> rfl
@[simp] theorem State.lyIncrement_sp (s : State) : s.lyIncrement.sp = s.sp := by
  simp only [State.lyIncrement]; split <;> rfl
@[simp] theorem State.lyIncrement_pc (s : State) : s.lyIncrement.pc = s.pc := by
  simp only [State.lyIncrement]; split <;> rfl
@[simp] theorem State.lyIncrement_ime (s : State) : s.lyIncrement.ime = s.ime := by
  simp only [State.lyIncrement]; split <;> rfl
@[simp] theorem State.lyIncrement_eiCountdown (s : State) : s.lyIncrement.eiCountdown = s.eiCountdown := by
  simp only [State.lyIncrement]; split <;> rfl
@[simp] theorem State.lyIncrement_halted (s : State) : s.lyIncrement.halted = s.halted := by
  simp only [State.lyIncrement]; split <;> rfl
@[simp] theorem State.lyIncrement_stopped (s : State) : s.lyIncrement.stopped = s.stopped := by
  simp only [State.lyIncrement]; split <;> rfl
@[simp] theorem State.lyIncrement_fault (s : State) : s.lyIncrement.fault = s.fault := by
  simp only [State.lyIncrement]; split <;> rfl
@[simp] theorem State.lyIncrement_m (s : State) : s.lyIncrement.m = s.m := by
  simp only [State.lyIncrement]; split <;> rfl
@[simp] theorem State.lyIncrement_inBios (s : State) : s.lyIncrement.inBios = s.inBios := by
  simp only [State.lyIncrement]; split <;> rfl
@[simp] theorem State.lyIncrement_mbc (s : State) : s.lyIncrement.mbc = s.mbc := by
  simp only [State.lyIncrement]; split <;> rfl
@[simp] theorem State.lyIncrement_extRam (s : State) : s.lyIncrement.extRam = s.extRam := by
  simp only [State.lyIncrement]; split <;> rfl
@[simp] theorem State.lyIncrement_lyCounter (s : State) : s.lyIncrement.lyCounter = s.lyCounter := by
  simp only [State.lyIncrement]; split <;> rfl
@[simp] theorem State.lyIncrement_divCounter (s : State) : s.lyIncrement.divCounter = s.divCounter := by
  simp only [State.lyIncrement]; split <;> rfl
@[simp] theorem State.lyIncrement_timaCounter (s : State) : s.lyIncrement.timaCounter = s.timaCounter := by
  simp only [State.lyIncrement]; split <;> rfl
@[simp] theorem State.lyIncrement_vramDirty (s : State) : s.lyIncrement.vramDirty = s.vramDirty := by
  simp only [State.lyIncrement]; split <;> rfl
@[simp] theorem State.lyIncrement_lcdcDirty (s : State) : s.lyIncrement.lcdcDirty = s.lcdcDirty := by
  simp only [State.lyIncrement]; split <;> rfl
@[simp] theorem State.lyIncrement_params (s : State) : s.lyIncrement.params = s.params := by
  simp only [State.lyIncrement]; split <;> rfl

@[simp] theorem State.divIncrement_a (s : State) : s.divIncrement.a = s.a := rfl
@[simp] theorem State.divIncrement_b (s : State) : s.divIncrement.b = s.b := rfl
@[simp] theorem State.divIncrement_c (s : State) : s.divIncrement.c = s.c := rfl
@[simp] theorem State.divIncrement_d (s : State) : s.divIncrement.d = s.d := rfl
@[simp] theorem State.divIncrement_e (s : State) : s.divIncrement.e = s.e := rfl
@[simp] theorem State.divIncrement_h (s : State) : s.divIncrement.h = s.h := rfl
@[simp] theorem State.divIncrement_l (s : State) : s.divIncrement.l = s.l := rfl
@[simp] theorem State.divIncrement_f (s : State) : s.divIncrement.f = s.f := rfl
@[simp] theorem State.divIncrement_sp (s : State) : s.divIncrement.sp = s.sp := rfl
@[simp] theorem State.divIncrement_pc (s : State) : s.divIncrement.pc = s.pc := rfl
@[simp] theorem State.divIncrement_ime (s : State) : s.divIncrement.ime = s.ime := rfl
@[simp] theorem State.divIncrement_eiCountdown (s : State) : s.divIncrement.eiCountdown = s.eiCountdown := rfl
@[simp] theorem State.divIncrement_halted (s : State) : s.divIncrement.halted = s.halted := rfl
@[simp] theorem State.divIncrement_stopped (s : State) : s.divIncrement.stopped = s.stopped := rfl
@[simp] theorem State.divIncrement_fault (s : State) : s.divIncrement.fault = s.fault := rfl
@[simp] theorem State.divIncrement_m (s : State) : s.divIncrement.m = s.m := rfl
@[simp] theorem State.divIncrement_inBios (s : State) : s.divIncrement.inBios = s.inBios := rfl
@[simp] theorem State.divIncrement_mbc (s : State) : s.divIncrement.mbc = s.mbc := rfl
@[simp] theorem State.divIncrement_extRam (s : State) : s.divIncrement.extRam = s.extRam := rfl
@[simp] theorem State.divIncrement_lyCounter (s : State) : s.divIncrement.lyCounter = s.lyCounter := rfl
@[simp] theorem State.divIncrement_divCounter (s : State) : s.divIncrement.divCounter = s.divCounter := rfl
@[simp] theorem State.divIncrement_timaCounter (s : State) : s.divIncrement.timaCounter = s.timaCounter := rfl
@[simp] theorem State.divIncrement_vramDirty (s : State) : s.divIncrement.vramDirty = s.vramDirty := rfl
@[simp] theorem State.divIncrement_lcdcDirty (s : State) : s.divIncrement.lcdcDirty = s.lcdcDirty := rfl
@[simp] theorem State.divIncrement_vblankEvent (s : State) : s.divIncrement.vblankEvent = s.vblankEvent := rfl
@[simp] theorem State.divIncrement_params (s : State) : s.divIncrement.params = s.params := rfl

@[simp] theorem State.timaIncrement_a (s : State) : s.timaIncrement.a = s.a := by
  simp only [State.timaIncrement]; split <;> rfl
@[simp] theorem State.timaIncrement_b (s : State) : s.timaIncrement.b = s.b := by
  simp only [State.timaIncrement]; split <;> rfl
@[simp] theorem State.timaIncrement_c (s : State) : s.timaIncrement.c = s.c := by
  simp only [State.timaIncrement]; split <;> rfl
@[simp] theorem State.timaIncrement_d (s : State) : s.timaIncrement.d = s.d := by
  simp only [State.timaIncrement]; split <;> rfl
@[simp] theorem State.timaIncrement_e (s : State) : s.timaIncrement.e = s.e := by
  simp only [State.timaIncrement]; split <;> rfl
@[simp] theorem State.timaIncrement_h (s : State) : s.timaIncrement.h = s.h := by
  simp only [State.timaIncrement]; split <;> rfl
@[simp] theorem State.timaIncrement_l (s : State) : s.timaIncrement.l = s.l := by
  simp only [State.timaIncrement]; split <;> rfl
@[simp] theorem State.timaIncrement_f (s : State) : s.timaIncrement.f = s.f := by
  simp only [State.timaIncrement]; split <;> rfl
@[simp] theorem State.timaIncrement_sp (s : State) : s.timaIncrement.sp = s.sp := by
  simp only [State.timaIncrement]; split <;> rfl
@[simp] theorem State.timaIncrement_pc (s : State) : s.timaIncrement.pc = s.pc := by
  simp only [State.timaIncrement]; split <;> rfl
@[simp] theorem State.timaIncrement_ime (s : State) : s.timaIncrement.ime = s.ime := by
  simp only [State.timaIncrement]; split <;> rfl
@[simp] theorem State.timaIncrement_eiCountdown (s : State) : s.timaIncrement.eiCountdown = s.eiCountdown := by
  simp only [State.timaIncrement]; split <;> rfl
@[simp] theorem State.timaIncrement_halted (s : State) : s.timaIncrement.halted = s.halted := by
  simp only [State.timaIncrement]; split <;> rfl
@[simp] theorem State.timaIncrement_stopped (s : State) : s.timaIncrement.stopped = s.stopped := by
  simp only [State.timaIncrement]; split <;> rfl
@[simp] theorem State.timaIncrement_fault (s : State) : s.timaIncrement.fault = s.fault := by
  simp only [State.timaIncrement]; split <;> rfl
@[simp] theorem State.timaIncrement_m (s : State) : s.timaIncrement.m = s.m := by
  simp only [State.timaIncrement]; split <;> rfl
@[simp] theorem State.timaIncrement_inBios (s : State) : s.timaIncrement.inBios = s.inBios := by
  simp only [State.timaIncrement]; split <;> rfl
@[simp] theorem State.timaIncrement_mbc (s : State) : s.timaIncrement.mbc = s.mbc := by
  simp only [State.timaIncrement]; split <;> rfl
@[simp] theorem State.timaIncrement_extRam (s : State) : s.timaIncrement.extRam = s.extRam := by
  simp only [State.timaIncrement]; split <;> rfl
@[simp] theorem State.timaIncrement_lyCounter (s : State) : s.timaIncrement.lyCounter = s.lyCounter := by
  simp only [State.timaIncrement]; split <;> rfl
@[simp] theorem State.timaIncrement_divCounter (s : State) : s.timaIncrement.divCounter = s.divCounter := by
  simp only [State.timaIncrement]; split <;> rfl
@[simp] theorem State.timaIncrement_timaCounter (s : State) : s.timaIncrement.timaCounter = s.timaCounter := by
  simp only [State.timaIncrement]; split <;> rfl
@[simp] theorem State.timaIncrement_vramDirty (s : State) : s.timaIncrement.vramDirty = s.vramDirty := by
  simp only [State.timaIncrement]; split <;> rfl
@[simp] theorem State.timaIncrement_lcdcDirty (s : State) : s.timaIncrement.lcdcDirty = s.lcdcDirty := by
  simp only [State.timaIncrement]; split <;> rfl
@[simp] theorem State.timaIncrement_vblankEvent (s : State) : s.timaIncrement.vblankEvent = s.vblankEvent := by
  simp only [State.timaIncrement]; split <;> rfl
@[simp] theorem State.timaIncrement_params (s : State) : s.timaIncrement.params = s.params := by
  simp only [State.timaIncrement]; split <;> rfl

@[simp] theorem State.lyAdvance_a (s : State) (n : Nat) : (s.lyAdvance n).a = s.a :=
  repeatState_field State.a State.lyIncrement_a _ _
@[simp] theorem State.lyAdvance_b (s : State) (n : Nat) : (s.lyAdvance n).b = s.b :=
  repeatState_field State.b State.lyIncrement_b _ _
@[simp] theorem State.lyAdvance_c (s : State) (n : Nat) : (s.lyAdvance n).c = s.c :=
  repeatState_field State.c State.lyIncrement_c _ _
@[simp] theorem State.lyAdvance_d (s : State) (n : Nat) : (s.lyAdvance n).d = s.d :=
  repeatState_field State.d State.lyIncrement_d _ _
@[simp] theorem State.lyAdvance_e (s : State) (n : Nat) : (s.lyAdvance n).e = s.e :=
  repeatState_field State.e State.lyIncrement_e _ _
@[simp] theorem State.lyAdvance_h (s : State) (n : Nat) : (s.lyAdvance n).h = s.h :=
  repeatState_field State.h State.lyIncrement_h _ _
@[simp] theorem State.lyAdvance_l (s : State) (n : Nat) : (s.lyAdvance n).l = s.l :=
  repeatState_field State.l State.lyIncrement_l _ _
@[simp] theorem State.lyAdvance_f (s : State) (n : Nat) : (s.lyAdvance n).f = s.f :=
  repeatState_field State.f State.lyIncrement_f _ _
@[simp] theorem State.lyAdvance_sp (s : State) (n : Nat) : (s.lyAdvance n).sp = s.sp :=
  repeatState_field State.sp State.lyIncrement_sp _ _
@[simp] theorem State.lyAdvance_pc (s : State) (n : Nat) : (s.lyAdvance n).pc = s.pc :=
  repeatState_field State.pc State.lyIncrement_pc _ _
@[simp] theorem State.lyAdvance_ime (s : State) (n : Nat) : (s.lyAdvance n).ime = s.ime :=
  repeatState_field State.ime State.lyIncrement_ime _ _
@[simp] theorem State.lyAdvance_eiCountdown (s : State) (n : Nat) : (s.lyAdvance n).eiCountdown = s.eiCountdown :=
  repeatState_field State.eiCountdown State.lyIncrement_eiCountdown _ _
@[simp] theorem State.lyAdvance_halted (s : State) (n : Nat) : (s.lyAdvance n).halted = s.halted :=
  repeatState_field State.halted State.lyIncrement_halted _ _
@[simp] theorem State.lyAdvance_stopped (s : State) (n : Nat) : (s.lyAdvance n).stopped = s.stopped :=
  repeatState_field State.stopped State.lyIncrement_stopped _ _
@[simp] theorem State.lyAdvance_fault (s : State) (n : Nat) : (s.lyAdvance n).fault = s.fault :=
  repeatState_field State.fault State.lyIncrement_fault _ _
@[simp] theorem State.lyAdvance_m (s : State) (n : Nat) : (s.lyAdvance n).m = s.m :=
  repeatState_field State.m State.lyIncrement_m _ _
@[simp] theorem State.lyAdvance_inBios (s : State) (n : Nat) : (s.lyAdvance n).inBios = s.inBios :=
  repeatState_field State.inBios State.lyIncrement_inBios _ _
@[simp] theorem State.lyAdvance_mbc (s : State) (n : Nat) : (s.lyAdvance n).mbc = s.mbc :=
  repeatState_field State.mbc State.lyIncrement_mbc _ _
@[simp] theorem State.lyAdvance_extRam (s : State) (n : Nat) : (s.lyAdvance n).extRam = s.extRam :=
  repeatState_field State.extRam State.lyIncrement_extRam _ _
@[simp] theorem State.lyAdvance_divCounter (s : State) (n : Nat) : (s.lyAdvance n).divCounter = s.divCounter :=
  repeatState_field State.divCounter State.lyIncrement_divCounter _ _
@[simp] theorem State.lyAdvance_timaCounter (s : State) (n : Nat) : (s.lyAdvance n).timaCounter = s.timaCounter :=
  repeatState_field State.timaCounter State.lyIncrement_timaCounter _ _
@[simp] theorem State.lyAdvance_vramDirty (s : State) (n : Nat) : (s.lyAdvance n).vramDirty = s.vramDirty :=
  repeatState_field State.vramDirty State.lyIncrement_vramDirty _ _
@[simp] theorem State.lyAdvance_lcdcDirty (s : State) (n : Nat) : (s.lyAdvance n).lcdcDirty = s.lcdcDirty :=
  repeatState_field State.lcdcDirty State.lyIncrement_lcdcDirty _ _
@[simp] theorem State.lyAdvance_params (s : State) (n : Nat) : (s.lyAdvance n).params = s.params :=
  repeatState_field State.params State.lyIncrement_params _ _

@[simp] theorem State.divAdvance_a (s : State) (n : Nat) : (s.divAdvance n).a = s.a :=
  repeatState_field State.a State.divIncrement_a _ _
@[simp] theorem State.divAdvance_b (s : State) (n : Nat) : (s.divAdvance n).b = s.b :=
  repeatState_field State.b State.divIncrement_b _ _
@[simp] theorem State.divAdvance_c (s : State) (n : Nat) : (s.divAdvance n).c = s.c :=
  repeatState_field State.c State.divIncrement_c _ _
@[simp] theorem State.divAdvance_d (s : State) (n : Nat) : (s.divAdvance n).d = s.d :=
  repeatState_field State.d State.divIncrement_d _ _
@[simp] theorem State.divAdvance_e (s : State) (n : Nat) : (s.divAdvance n).e = s.e :=
  repeatState_field State.e State.divIncrement_e _ _
@[simp] theorem State.divAdvance_h (s : State) (n : Nat) : (s.divAdvance n).h = s.h :=
  repeatState_field State.h State.divIncrement_h _ _
@[simp] theorem State.divAdvance_l (s : State) (n : Nat) : (s.divAdvance n).l = s.l :=
  repeatState_field State.l State.divIncrement_l _ _
@[simp] theorem State.divAdvance_f (s : State) (n : Nat) : (s.divAdvance n).f = s.f :=
  repeatState_field State.f State.divIncrement_f _ _
@[simp] theorem State.divAdvance_sp (s : State) (n : Nat) : (s.divAdvance n).sp = s.sp :=
  repeatState_field State.sp State.divIncrement_sp _ _
@[simp] theorem State.divAdvance_pc (s : State) (n : Nat) : (s.divAdvance n).pc = s.pc :=
  repeatState_field State.pc State.divIncrement_pc _ _
@[simp] theorem State.divAdvance_ime (s : State) (n : Nat) : (s.divAdvance n).ime = s.ime :=
  repeatState_field State.ime State.divIncrement_ime _ _
@[simp] theorem State.divAdvance_eiCountdown (s : State) (n : Nat) : (s.divAdvance n).eiCountdown = s.eiCountdown :=
  repeatState_field State.eiCountdown State.divIncrement_eiCountdown _ _
@[simp] theorem State.divAdvance_halted (s : State) (n : Nat) : (s.divAdvance n).halted = s.halted :=
  repeatState_field State.halted State.divIncrement_halted _ _
@[simp] theorem State.divAdvance_stopped (s : State) (n : Nat) : (s.divAdvance n).stopped = s.stopped :=
  repeatState_field State.stopped State.divIncrement_stopped _ _
@[simp] theorem State.divAdvance_fault (s : State) (n : Nat) : (s.divAdvance n).fault = s.fault :=
  repeatState_field State.fault State.divIncrement_fault _ _
@[simp] theorem State.divAdvance_m (s : State) (n : Nat) : (s.divAdvance n).m = s.m :=
  repeatState_field State.m State.divIncrement_m _ _
@[simp] theorem State.divAdvance_inBios (s : State) (n : Nat) : (s.divAdvance n).inBios = s.inBios :=
  repeatState_field State.inBios State.divIncrement_inBios _ _
@[simp] theorem State.divAdvance_mbc (s : State) (n : Nat) : (s.divAdvance n).mbc = s.mbc :=
  repeatState_field State.mbc State.divIncrement_mbc _ _
@[simp] theorem State.divAdvance_extRam (s : State) (n : Nat) : (s.divAdvance n).extRam = s.extRam :=
  repeatState_field State.extRam State.divIncrement_extRam _ _
@[simp] theorem State.divAdvance_lyCounter (s : State) (n : Nat) : (s.divAdvance n).lyCounter = s.lyCounter :=
  repeatState_field State.lyCounter State.divIncrement_lyCounter _ _
@[simp] theorem State.divAdvance_timaCounter (s : State) (n : Nat) : (s.divAdvance n).timaCounter = s.timaCounter :=
  repeatState_field State.timaCounter State.divIncrement_timaCounter _ _
@[simp] theorem State.divAdvance_vramDirty (s : State) (n : Nat) : (s.divAdvance n).vramDirty = s.vramDirty :=
  repeatState_field State.vramDirty State.divIncrement_vramDirty _ _
@[simp] theorem State.divAdvance_lcdcDirty (s : State) (n : Nat) : (s.divAdvance n).lcdcDirty = s.lcdcDirty :=
  repeatState_field State.lcdcDirty State.divIncrement_lcdcDirty _ _
@[simp] theorem State.divAdvance_vblankEvent (s : State) (n : Nat) : (s.divAdvance n).vblankEvent = s.vblankEvent :=
  repeatState_field State.vblankEvent State.divIncrement_vblankEvent _ _
@[simp] theorem State.divAdvance_params (s : State) (n : Nat) : (s.divAdvance n).params = s.params :=
  repeatState_field State.params State.divIncrement_params _ _

@[simp] theorem State.timaAdvance_a (s : State) (n : Nat) : (s.timaAdvance n).a = s.a := by
  unfold State.timaAdvance; split
  · rfl
  · exact repeatState_field State.a State.timaIncrement_a _ _
@[simp] theorem State.timaAdvance_b (s : State) (n : Nat) : (s.timaAdvance n).b = s.b := by
  unfold State.timaAdvance; split
  · rfl
  · exact repeatState_field State.b State.timaIncrement_b _ _
@[simp] theorem State.timaAdvance_c (s : State) (n : Nat) : (s.timaAdvance n).c = s.c := by
  unfold State.timaAdvance; split
  · rfl
  · exact repeatState_field State.c State.timaIncrement_c _ _
@[simp] theorem State.timaAdvance_d (s : State) (n : Nat) : (s.timaAdvance n).d = s.d := by
  unfold State.timaAdvance; split
  · rfl
  · exact repeatState_field State.d State.timaIncrement_d _ _
@[simp] theorem State.timaAdvance_e (s : State) (n : Nat) : (s.timaAdvance n).e = s.e := by
  unfold State.timaAdvance; split
  · rfl
  · exact repeatState_field State.e State.timaIncrement_e _ _
@[simp] theorem State.timaAdvance_h (s : State) (n : Nat) : (s.timaAdvance n).h = s.h := by
  unfold State.timaAdvance; split
  · rfl
  · exact repeatState_field State.h State.timaIncrement_h _ _
@[simp] theorem State.timaAdvance_l (s : State) (n : Nat) : (s.timaAdvance n).l = s.l := by
  unfold State.timaAdvance; split
  · rfl
  · exact repeatState_field State.l State.timaIncrement_l _ _
@[simp] theorem State.timaAdvance_f (s : State) (n : Nat) : (s.timaAdvance n).f = s.f := by
  unfold State.timaAdvance; split
  · rfl
  · exact repeatState_field State.f State.timaIncrement_f _ _
@[simp] theorem State.timaAdvance_sp (s : State) (n : Nat) : (s.timaAdvance n).sp = s.sp := by
  unfold State.timaAdvance; split
  · rfl
  · exact repeatState_field State.sp State.timaIncrement_sp _ _
@[simp] theorem State.timaAdvance_pc (s : State) (n : Nat) : (s.timaAdvance n).pc = s.pc := by
  unfold State.timaAdvance; split
  · rfl
  · exact repeatState_field State.pc State.timaIncrement_pc _ _
@[simp] theorem State.timaAdvance_ime (s : State) (n : Nat) : (s.timaAdvance n).ime = s.ime := by
  unfold State.timaAdvance; split
  · rfl
  · exact repeatState_field State.ime State.timaIncrement_ime _ _
@[simp] theorem State.timaAdvance_eiCountdown (s : State) (n : Nat) : (s.timaAdvance n).eiCountdown = s.eiCountdown := by
  unfold State.timaAdvance; split
  · rfl
  · exact repeatState_field State.eiCountdown State.timaIncrement_eiCountdown _ _
@[simp] theorem State.timaAdvance_halted (s : State) (n : Nat) : (s.timaAdvance n).halted = s.halted := by
  unfold State.timaAdvance; split
  · rfl
  · exact repeatState_field State.halted State.timaIncrement_halted _ _
@[simp] theorem State.timaAdvance_stopped (s : State) (n : Nat) : (s.timaAdvance n).stopped = s.stopped := by
  unfold State.timaAdvance; split
  · rfl
  · exact repeatState_field State.stopped State.timaIncrement_stopped _ _
@[simp] theorem State.timaAdvance_fault (s : State) (n : Nat) : (s.timaAdvance n).fault = s.fault := by
  unfold State.timaAdvance; split
  · rfl
  · exact repeatState_field State.fault State.timaIncrement_fault _ _
@[simp] theorem State.timaAdvance_m (s : State) (n : Nat) : (s.timaAdvance n).m = s.m := by
  unfold State.timaAdvance; split
  · rfl
  · exact repeatState_field State.m State.timaIncrement_m _ _
@[simp] theorem State.timaAdvance_inBios (s : State) (n : Nat) : (s.timaAdvance n).inBios = s.inBios := by
  unfold State.timaAdvance; split
  · rfl
  · exact repeatState_field State.inBios State.timaIncrement_inBios _ _
@[simp] theorem State.timaAdvance_mbc (s : State) (n : Nat) : (s.timaAdvance n).mbc = s.mbc := by
  unfold State.timaAdvance; split
  · rfl
  · exact repeatState_field State.mbc State.timaIncrement_mbc _ _
@[simp] theorem State.timaAdvance_extRam (s : State) (n : Nat) : (s.timaAdvance n).extRam = s.extRam := by
  unfold State.timaAdvance; split
  · rfl
  · exact repeatState_field State.extRam State.timaIncrement_extRam _ _
@[simp] theorem State.timaAdvance_lyCounter (s : State) (n : Nat) : (s.timaAdvance n).lyCounter = s.lyCounter := by
  unfold State.timaAdvance; split
  · rfl
  · exact repeatState_field State.lyCounter State.timaIncrement_lyCounter _ _
@[simp] theorem State.timaAdvance_divCounter (s : State) (n : Nat) : (s.timaAdvance n).divCounter = s.divCounter := by
  unfold State.timaAdvance; split
  · rfl
  · exact repeatState_field State.divCounter State.timaIncrement_divCounter _ _
@[simp] theorem State.timaAdvance_vramDirty (s : State) (n : Nat) : (s.timaAdvance n).vramDirty = s.vramDirty := by
  unfold State.timaAdvance; split
  · rfl
  · exact repeatState_field State.vramDirty State.timaIncrement_vramDirty _ _
@[simp] theorem State.timaAdvance_lcdcDirty (s : State) (n : Nat) : (s.timaAdvance n).lcdcDirty = s.lcdcDirty := by
  unfold State.timaAdvance; split
  · rfl
  · exact repeatState_field State.lcdcDirty State.timaIncrement_lcdcDirty _ _
@[simp] theorem State.timaAdvance_vblankEvent (s : State) (n : Nat) : (s.timaAdvance n).vblankEvent = s.vblankEvent := by
  unfold State.timaAdvance; split
  · rfl
  · exact repeatState_field State.vblankEvent State.timaIncrement_vblankEvent _ _
@[simp] theorem State.timaAdvance_params (s : State) (n : Nat) : (s.timaAdvance n).params = s.params := by
  unfold State.timaAdvance; split
  · rfl
  · exact repeatState_field State.params State.timaIncrement_params _ _

@[simp] theorem State.tick_a (s : State) (n : Nat) : (s.tick n).a = s.a := by
  simp [State.tick]
@[simp] theorem State.tick_b (s : State) (n : Nat) : (s.tick n).b = s.b := by
  simp [State.tick]
@[simp] theorem State.tick_c (s : State) (n : Nat) : (s.tick n).c = s.c := by
  simp [State.tick]
@[simp] theorem State.tick_d (s : State) (n : Nat) : (s.tick n).d = s.d := by
  simp [State.tick]
@[simp] theorem State.tick_e (s : State) (n : Nat) : (s.tick n).e = s.e := by
  simp [State.tick]
@[simp] theorem State.tick_h (s : State) (n : Nat) : (s.tick n).h = s.h := by
  simp [State.tick]
@[simp] theorem State.tick_l (s : State) (n : Nat) : (s.tick n).l = s.l := by
  simp [State.tick]
@[simp] theorem State.tick_f (s : State) (n : Nat) : (s.tick n).f = s.f := by
  simp [State.tick]
@[simp] theorem State.tick_sp (s : State) (n : Nat) : (s.tick n).sp = s.sp := by
  simp [State.tick]
@[simp] theorem State.tick_pc (s : State) (n : Nat) : (s.tick n).pc = s.pc := by
  simp [State.tick]
@[simp] theorem State.tick_ime (s : State) (n : Nat) : (s.tick n).ime = s.ime := by
  simp [State.tick]
@[simp] theorem State.tick_eiCountdown (s : State) (n : Nat) : (s.tick n).eiCountdown = s.eiCountdown := by
  simp [State.tick]
@[simp] theorem State.tick_halted (s : State) (n : Nat) : (s.tick n).halted = s.halted := by
  simp [State.tick]
@[simp] theorem State.tick_stopped (s : State) (n : Nat) : (s.tick n).stopped = s.stopped := by
  simp [State.tick]
@[simp] theorem State.tick_fault (s : State) (n : Nat) : (s.tick n).fault = s.fault := by
  simp [State.tick]
@[simp] theorem State.tick_inBios (s : State) (n : Nat) : (s.tick n).inBios = s.inBios := by
  simp [State.tick]
@[simp] theorem State.tick_mbc (s : State) (n : Nat) : (s.tick n).mbc = s.mbc := by
  simp [State.tick]
@[simp] theorem State.tick_extRam (s : State) (n : Nat) : (s.tick n).extRam = s.extRam := by
  simp [State.tick]
@[simp] theorem State.tick_vramDirty (s : State) (n : Nat) : (s.tick n).vramDirty = s.vramDirty := by
  simp [State.tick]
@[simp] theorem State.tick_lcdcDirty (s : State) (n : Nat) : (s.tick n).lcdcDirty = s.lcdcDirty := by
  simp [State.tick]
@[simp] theorem State.tick_params (s : State) (n : Nat) : (s.tick n).params = s.params := by
  simp [State.tick]
@[simp] theorem State.tick_m (s : State) (n : Nat) : (s.tick n).m = s.m + n := by
  simp [State.tick]

end Sys2Proof.Machine
end

