-- ==== Sys2Proof/Laws/Access.lean ====
section
/-! SUPPORT. The read and write dispatch (20_memory.md R55, R60): what a read depends on, what reads after a write,
and what the stack operations come to. -/

namespace Sys2Proof.Machine

/-! ### Reads (R55, R56) -/

/-- A read depends on `mem`, the bank registers, the external RAM, `inBIOS` and the parameters alone. -/
theorem State.memRead_congr {s t : State} (hm : t.mem = s.mem) (hb : t.mbc = s.mbc) (hx : t.extRam = s.extRam)
    (hi : t.inBios = s.inBios) (hp : t.params = s.params) (a : Word) : t.memRead a = s.memRead a := by
  cases s; cases t; cases hm; cases hb; cases hx; cases hi; cases hp; rfl

/-- A read faults exactly at the five unsupported registers (R56). -/
theorem State.memRead_error_iff (s : State) (a : Word) (r : Fault) :
    s.memRead a = .error r ↔ unsupportedAddrs.contains a.toNat = true ∧ r = .unsupportedRegister a := by
  unfold State.memRead
  simp only
  split
  · rename_i h; simp only [h, true_and, Except.error.injEq]; exact eq_comm
  · rename_i h
    constructor
    · intro h'; split at h'
      · split at h' <;> cases h'
      · split at h' <;> cases h'
    · intro h'; exact absurd h'.1 h

/-- Whether a read faults does not depend on the state. -/
theorem State.memRead_error_any {s : State} {a : Word} {r : Fault} (h : s.memRead a = .error r) (t : State) :
    t.memRead a = .error r := (t.memRead_error_iff a r).2 ((s.memRead_error_iff a r).1 h)

/-- An address that is a cell of `mem` and not unsupported reads its cell (R55 step 4). -/
theorem State.memRead_cell (s : State) {a : Word} (hc : isMemCell a.toNat = true)
    (hu : unsupportedAddrs.contains a.toNat = false) : s.memRead a = .ok (s.cell a.toNat) := by
  simp only [isMemCell, Bool.or_eq_true, Bool.and_eq_true, decide_eq_true_eq] at hc
  unfold State.memRead
  simp only [hu, Bool.false_eq_true, if_false]
  rw [if_neg (by omega), if_neg (by omega)]

/-- `unsupportedAddrs` as five equations. -/
theorem unsupported_iff (a : Word) : unsupportedAddrs.contains a.toNat = true ↔
    a = 0xFF01 ∨ a = 0xFF02 ∨ a = 0xFF46 ∨ a = 0xFF4D ∨ a = 0xFF70 := by
  simp only [unsupportedAddrs, sbAddr, scAddr, dmaAddr, key1Addr, svbkAddr, List.contains_iff_mem, List.mem_cons,
    List.not_mem_nil, or_false]
  constructor
  · rintro (h | h | h | h | h) <;> simp [BitVec.toNat_eq, h]
  · rintro (h | h | h | h | h) <;> simp [h]

/-! ### Writes (R60) -/

/-- A plain address is written as a plain byte (R60 step 7). -/
theorem State.memWrite_plain (s : State) {a : Word} (h : plainAddr a.toNat = true) (v : Byte) :
    s.memWrite a v = s.plainWrite a.toNat v := by
  simp only [plainAddr, isMemCell, Bool.and_eq_true, Bool.or_eq_true, decide_eq_true_eq, bne_iff_ne] at h
  obtain ⟨⟨⟨⟨hc, h1⟩, h2⟩, h3⟩, h4⟩ := h
  unfold State.memWrite
  simp only
  rw [if_neg (by omega), if_neg (by omega), if_neg h1, if_neg h2, if_neg h3, if_neg h4]

/-- The cells of `mem` outside the address written are as before. -/
theorem State.cell_memWrite_other (s : State) (a : Word) (v : Byte) {b : Nat} (h : a.toNat ≠ b) :
    (s.memWrite a v).cell b = s.cell b := by
  have h' : b ≠ a.toNat := fun e => h e.symm
  unfold State.memWrite
  simp only
  split
  · rw [State.mbcControl_eq]; rfl
  split
  · rw [State.extRamWrite_eq]; rfl
  split
  · rename_i e; exact State.cell_setCell_other s (by omega) _
  split
  · rfl
  split
  · rfl
  split
  · rename_i e; exact Memory.get_set_other s.mem (by omega) 0
  · exact Memory.get_set_other s.mem h' v

/-- Outside the ROM area a write leaves the bank registers. -/
theorem State.mbc_memWrite (s : State) {a : Word} (h : 0x8000 ≤ a.toNat) (v : Byte) :
    (s.memWrite a v).mbc = s.mbc := by
  unfold State.memWrite
  simp only
  rw [if_neg (by omega)]
  split
  · rw [State.extRamWrite_eq]
  repeat' split
  all_goals rfl

/-- Outside its window a write leaves the external RAM. -/
theorem State.extRam_memWrite (s : State) {a : Word} (h : ¬(0xA000 ≤ a.toNat ∧ a.toNat < 0xC000)) (v : Byte) :
    (s.memWrite a v).extRam = s.extRam := by
  unfold State.memWrite
  simp only
  split
  · rw [State.mbcControl_eq]
  rw [if_neg (by omega)]
  repeat' split
  all_goals rfl

/-- A write never changes LY (R60 step 5). -/
theorem State.ly_memWrite (s : State) (a : Word) (v : Byte) : (s.memWrite a v).ly = s.ly := by
  by_cases h : a.toNat = lyAddr
  · unfold State.memWrite
    simp only
    rw [h]; rfl
  · exact State.cell_memWrite_other s a v h

/-- Only a write to DIV changes the divider's sub-counter, to zero (R60 step 6). -/
theorem State.divCounter_memWrite (s : State) (a : Word) (v : Byte) :
    (s.memWrite a v).divCounter = if a.toNat = divAddr then 0 else s.divCounter := by
  by_cases h : a.toNat = divAddr
  · unfold State.memWrite
    simp only
    rw [if_pos h, h]; rfl
  rw [if_neg h]
  unfold State.memWrite
  simp only
  split
  · rw [State.mbcControl_eq]
  split
  · rw [State.extRamWrite_eq]
  repeat' split
  all_goals rfl

/-- Every write keeps the memories canonical and in their bounds. -/
theorem memInv_setCell {s : State} {a : Nat} {v : Byte} (h : s.MemInv) (ha : isMemCell a = true)
    (hb : a ≠ vbkAddr) : (s.setCell a v).MemInv := by
  refine ⟨Memory.wf_set h.1 _ _, Memory.keys_set (p := fun a => isMemCell a = true) ha h.2, h.3, h.4, ?_⟩
  rw [State.cell_setCell_other s (Ne.symm hb)]; exact h.5

/-- `MemInv` depends on `mem`, the external RAM and the parameters alone. -/
theorem memInv_congr {s t : State} (h : s.MemInv) (h1 : t.mem = s.mem) (h2 : t.extRam = s.extRam)
    (h3 : t.params = s.params) : t.MemInv := by
  cases s; cases t; cases h1; cases h2; cases h3; exact ⟨h.1, h.2, h.3, h.4, h.5⟩

theorem memInv_memWrite {s : State} {a : Word} {v : Byte} (h : s.MemInv) : (s.memWrite a v).MemInv := by
  unfold State.memWrite
  simp only
  split
  · rw [State.mbcControl_eq]; exact memInv_congr h rfl rfl rfl
  rename_i h1
  split
  · unfold State.extRamWrite
    split
    · rename_i off ho
      have : off < s.params.ramSize := by
        unfold State.extRamOffset at ho
        split at ho
        · cases ho
        · simp only at ho
          split at ho
          · rename_i hlt; have := Option.some.inj ho; omega
          · cases ho
      exact ⟨h.1, h.2, Memory.wf_set h.3 _ _, Memory.keys_set (p := fun a => a < s.params.ramSize) this h.4, h.5⟩
    · exact h
  rename_i h2
  split
  · exact memInv_setCell h (by decide) (by decide)
  split
  · exact h
  split
  · exact h
  split
  · exact memInv_congr (memInv_setCell (v := 0) h (a := divAddr) (by decide) (by decide)) rfl rfl rfl
  · refine memInv_congr (s := s.setCell a.toNat v) (memInv_setCell h ?_ (by assumption)) rfl rfl rfl
    simp only [isMemCell, Bool.or_eq_true, Bool.and_eq_true, decide_eq_true_eq]
    have := a.isLt
    omega

/-- The memory of the reset state is canonical. -/
theorem reset_mem_wf : Memory.wf State.reset.mem := by decide

theorem State.extRamOffset_congr {s t : State} (hb : t.mbc = s.mbc) (hp : t.params = s.params) (a : Nat) :
    t.extRamOffset a = s.extRamOffset a := by
  cases s; cases t; cases hb; cases hp; rfl

theorem State.romRead_congr {s t : State} (hb : t.mbc = s.mbc) (hp : t.params = s.params) (a : Nat) :
    t.romRead a = s.romRead a := by
  cases s; cases t; cases hb; cases hp; rfl

/-- Two addresses of the window show two bytes of the external RAM. -/
theorem State.extRamOffset_ne {s : State} {a b o p : Nat} (ha : 0xA000 ≤ a) (hb : 0xA000 ≤ b) (h : b ≠ a)
    (ho : s.extRamOffset a = some o) (hp : s.extRamOffset b = some p) : p ≠ o := by
  unfold State.extRamOffset at ho hp
  split at ho
  · cases ho
  rename_i h1
  rw [if_neg h1] at hp
  generalize s.effRamBank = k at ho hp
  simp only at ho hp
  split at ho
  · split at hp
    · have e1 := Option.some.inj ho
      have e2 := Option.some.inj hp
      omega
    · cases hp
  · cases ho

/-- After a write outside the ROM area every other address reads as before. -/
theorem State.memRead_memWrite_other (s : State) {a b : Word} (ha : 0x8000 ≤ a.toNat) (hb : b ≠ a) (v : Byte) :
    (s.memWrite a v).memRead b = s.memRead b := by
  have hm := State.mbc_memWrite s ha v
  have hp := State.memWrite_params s a v
  have hi := State.memWrite_inBios s a v
  have hn : b.toNat ≠ a.toNat := fun e => hb (BitVec.eq_of_toNat_eq e)
  unfold State.memRead
  simp only [hi, hp]
  split
  · rfl
  split
  · rw [State.romRead_congr hm hp]
  split
  · rename_i hw
    simp only [State.extRamRead, State.extRamOffset_congr hm hp]
    split
    · rename_i p hbo
      by_cases hwa : 0xA000 ≤ a.toNat ∧ a.toNat < 0xC000
      · have : s.memWrite a v = s.extRamWrite a.toNat v := by
          unfold State.memWrite
          simp only
          rw [if_neg (by omega), if_pos (by omega)]
        rw [this]
        unfold State.extRamWrite
        split
        · rename_i o hao
          exact congrArg _ (Memory.get_set_other _ (State.extRamOffset_ne hwa.1 hw.1 hn hao hbo) v)
        · rfl
      · rw [State.extRam_memWrite s hwa]
    · rfl
  · exact congrArg _ (State.cell_memWrite_other s a v (fun e => hn e.symm))

/-- A plain address that can be read reads what was written. -/
theorem State.memRead_memWrite_same (s : State) {a : Word} (h : ramAddr a.toNat = true) (v : Byte) :
    (s.memWrite a v).memRead a = .ok v := by
  simp only [ramAddr, Bool.and_eq_true, Bool.not_eq_true'] at h
  have hc : isMemCell a.toNat = true := by
    have := h.1
    simp only [plainAddr, Bool.and_eq_true] at this
    exact this.1.1.1.1
  rw [State.memRead_cell _ hc h.2, State.memWrite_plain s h.1]
  exact congrArg _ (Memory.get_set_same s.mem a.toNat v)

theorem ramAddr_ge {a : Nat} (h : ramAddr a = true) : 0x8000 ≤ a := by
  simp only [ramAddr, plainAddr, isMemCell, Bool.and_eq_true, Bool.or_eq_true, decide_eq_true_eq] at h
  omega

/-! ### The stack (R150) -/

/-- `t` with the fields of `s` that a byte write can change. -/
def State.withMemoryOf (t s : State) : State :=
  { t with
    mem := s.mem
    mbc := s.mbc
    extRam := s.extRam
    divCounter := s.divCounter
    vramDirty := s.vramDirty
    lcdcDirty := s.lcdcDirty }

theorem State.mbcControl_withMemoryOf {s t : State} (hp : t.params = s.params) (a : Nat) (v : Byte) :
    (t.withMemoryOf s).mbcControl a v = t.withMemoryOf (s.mbcControl a v) := by
  by_cases h1 : a < 0x2000 <;> by_cases h2 : a < 0x4000 <;> by_cases h3 : a < 0x6000 <;>
    cases hk : s.params.cartKind <;>
    simp only [State.mbcControl, State.withMemoryOf, hp, hk, h1, h2, h3, if_true, if_false]

/-- A byte write does not look at the fields it does not change. -/
theorem State.memWrite_withMemoryOf {s t : State} (hp : t.params = s.params) (a : Word) (v : Byte) :
    (t.withMemoryOf s).memWrite a v = t.withMemoryOf (s.memWrite a v) := by
  by_cases h1 : a.toNat ≤ 0x7FFF
  · simp only [State.memWrite, if_pos h1]
    exact State.mbcControl_withMemoryOf hp a.toNat v
  by_cases h2 : 0xA000 ≤ a.toNat ∧ a.toNat ≤ 0xBFFF
  · simp only [State.memWrite, if_neg h1, if_pos h2]
    have e : (t.withMemoryOf s).extRamOffset a.toNat = s.extRamOffset a.toNat :=
      State.extRamOffset_congr (s := s) (t := t.withMemoryOf s) rfl hp a.toNat
    cases h : s.extRamOffset a.toNat with
    | none => simp only [State.extRamWrite, e, h]
    | some off => simp only [State.extRamWrite, e, h]; rfl
  simp only [State.memWrite, if_neg h1, if_neg h2]
  by_cases h3 : a.toNat = statAddr
  · simp only [if_pos h3]; rfl
  by_cases h4 : a.toNat = vbkAddr
  · simp only [if_neg h3, if_pos h4]
  by_cases h5 : a.toNat = lyAddr
  · simp only [if_neg h3, if_neg h4, if_pos h5]
  by_cases h6 : a.toNat = divAddr
  · simp only [if_neg h3, if_neg h4, if_neg h5, if_pos h6]; rfl
  · simp only [if_neg h3, if_neg h4, if_neg h5, if_neg h6]; rfl

theorem State.memWrite_frame (s : State) (a : Word) (v : Byte) (sp : Word) :
    ({ s with sp := sp } : State).memWrite a v = { s.memWrite a v with sp := sp } :=
  (State.memWrite_withMemoryOf (s := s) (t := { s with sp := sp }) rfl a v).trans (by
    rw [State.withMemoryOf, State.memWrite_eq])

/-- A push is two byte writes, high byte first, and SP two lower. -/
theorem State.push16_writes (s : State) (w : Word) :
    s.push16 w =
      { (s.memWrite (s.sp - 1) (hiByte w)).memWrite (s.sp - 2) (loByte w) with sp := s.sp - 2 } := by
  have e : s.sp - 1 - 1 = s.sp - 2 := by bv_omega
  rw [State.push16_eq, e, State.memWrite_frame]
  simp only [State.memWrite_frame]

/-- What reads after a push onto RAM. -/
theorem State.push16_reads (s : State) (w : Word) (h1 : ramAddr (s.sp - 1).toNat = true)
    (h2 : ramAddr (s.sp - 2).toNat = true) :
    (s.push16 w).memRead (s.sp - 1) = .ok (hiByte w) ∧ (s.push16 w).memRead (s.sp - 2) = .ok (loByte w) ∧
      ∀ a, a ≠ s.sp - 1 → a ≠ s.sp - 2 → (s.push16 w).memRead a = s.memRead a := by
  have hr : ∀ a, (s.push16 w).memRead a =
      ((s.memWrite (s.sp - 1) (hiByte w)).memWrite (s.sp - 2) (loByte w)).memRead a := by
    intro a; rw [State.push16_writes]; exact State.memRead_congr rfl rfl rfl rfl rfl a
  have hne : s.sp - 1 ≠ s.sp - 2 := by bv_omega
  refine ⟨?_, ?_, fun a ha hb => ?_⟩
  · rw [hr, State.memRead_memWrite_other _ (ramAddr_ge h2) hne, State.memRead_memWrite_same _ h1]
  · rw [hr, State.memRead_memWrite_same _ h2]
  · rw [hr, State.memRead_memWrite_other _ (ramAddr_ge h2) hb, State.memRead_memWrite_other _ (ramAddr_ge h1) ha]

/-- The dispatch: the request cleared, PC pushed, and the registers it sets (60_exceptions.md R281). -/
theorem State.dispatch_eq (s : State) :
    s.dispatch =
      { ((s.setCell ifAddr (s.iflag &&& 0xFE)).memWrite (s.sp - 1) (hiByte s.pc)).memWrite (s.sp - 2) (loByte s.pc) with
        sp := s.sp - 2, pc := vblankVector, ime := false, eiCountdown := 0 } := by
  let t : State := { s with ime := false, eiCountdown := 0 }
  let u : State := s.setCell ifAddr (s.iflag &&& 0xFE)
  show { (t.withMemoryOf u).push16 s.pc with pc := vblankVector } = _
  have e : (t.withMemoryOf u).push16 s.pc =
      { ((t.withMemoryOf u).memWrite (s.sp - 1) (hiByte s.pc)).memWrite (s.sp - 2) (loByte s.pc) with
        sp := s.sp - 2 } := State.push16_writes _ _
  have hp : t.params = u.params := rfl
  rw [e, State.memWrite_withMemoryOf hp, State.memWrite_withMemoryOf (by rw [State.memWrite_params, hp])]
  simp [State.withMemoryOf, t, u]

/-! ### Reading forms -/

theorem withRead_ok {s : State} {a : Word} {v : Byte} (h : s.memRead a = .ok v) (k : Byte → Result) :
    withRead s a k = k v := by simp [withRead, h]

theorem withRead_error {s : State} {a : Word} {r : Fault} (h : s.memRead a = .error r) (k : Byte → Result) :
    withRead s a k = .next (s.raise r) := by simp [withRead, h]

/-- A reading form answers next only by its continuation or by raising the fault of its read. -/
theorem withRead_next {s t : State} {a : Word} {k : Byte → Result} (h : withRead s a k = .next t) :
    (∃ v, s.memRead a = .ok v ∧ k v = .next t) ∨ (∃ r, s.memRead a = .error r ∧ t = s.raise r) := by
  unfold withRead at h
  split at h
  · rename_i v hv; exact .inl ⟨v, hv, h⟩
  · rename_i r hr; cases h; exact .inr ⟨r, hr, rfl⟩

theorem State.memRead_setSp (s : State) (sp a : Word) : ({ s with sp := sp } : State).memRead a = s.memRead a :=
  State.memRead_congr rfl rfl rfl rfl rfl a

theorem withPop_ok {s : State} {lo hi : Byte} (h1 : s.memRead s.sp = .ok lo) (h2 : s.memRead (s.sp + 1) = .ok hi)
    (k : Word → State → Result) : withPop s k = k (word hi lo) { s with sp := s.sp + 2 } := by
  have e : s.sp + 1 + 1 = s.sp + 2 := by bv_omega
  unfold withPop
  rw [withRead_ok h1]
  simp only
  rw [withRead_ok (by rw [State.memRead_setSp]; exact h2), e]

theorem withPop_error1 {s : State} {r : Fault} (h : s.memRead s.sp = .error r) (k : Word → State → Result) :
    withPop s k = .next { s with fault := some r } := by
  unfold withPop
  rw [withRead_error h]; rfl

theorem withPop_error2 {s : State} {lo : Byte} {r : Fault} (h1 : s.memRead s.sp = .ok lo)
    (h2 : s.memRead (s.sp + 1) = .error r) (k : Word → State → Result) :
    withPop s k = .next { s with sp := s.sp + 1, fault := some r } := by
  unfold withPop
  rw [withRead_ok h1]
  simp only
  rw [withRead_error (by rw [State.memRead_setSp]; exact h2)]; rfl

/-- A popping form answers next only by its continuation or by raising the fault of one of its two reads. -/
theorem withPop_next {s t : State} {k : Word → State → Result} (h : withPop s k = .next t) :
    (∃ w, k w { s with sp := s.sp + 2 } = .next t) ∨
    (∃ r, s.memRead s.sp = .error r ∧ t = { s with fault := some r }) ∨
    (∃ r, s.memRead (s.sp + 1) = .error r ∧ t = { s with sp := s.sp + 1, fault := some r }) := by
  cases h1 : s.memRead s.sp with
  | error r => rw [withPop_error1 h1] at h; cases h; exact .inr (.inl ⟨r, rfl, rfl⟩)
  | ok lo =>
    cases h2 : s.memRead (s.sp + 1) with
    | error r => rw [withPop_error2 h1 h2] at h; cases h; exact .inr (.inr ⟨r, rfl, rfl⟩)
    | ok hi => rw [withPop_ok h1 h2] at h; exact .inl ⟨_, h⟩

end Sys2Proof.Machine
end

