-- ==== Sys2Proof/Laws/Decode.lean ====
section
/-! SUPPORT. The decoder on enough bytes: it never runs out of them. -/

namespace Sys2Proof

/-- No instruction is longer than three bytes (30_encoding.md R101). -/
theorem instrLength_le (op : Byte) : instrLength op ≤ 3 := by
  revert op; decide

theorem instrLength_pos (op : Byte) : 1 ≤ instrLength op := by
  revert op; decide

theorem operandBytes_le (op : Byte) : operandBytes op ≤ 2 := by
  revert op; decide

/-- A first byte with the bytes it asks for decodes, and the bytes after them are left. -/
theorem decode_enough (op : Byte) (rest : List Byte) (h : instrLength op ≤ rest.length + 1) :
    ∃ i, decode (op :: rest) = .ok (i, rest.drop (instrLength op - 1)) := by
  unfold decode
  unfold instrLength at h ⊢
  by_cases hc : op = cbByte
  · subst hc
    cases rest with
    | nil => simp at h
    | cons b more => exact ⟨decodeCb b, by simp⟩
  · simp only [hc, if_false] at h ⊢
    have hb := operandBytes_le op
    rcases Nat.lt_or_ge 0 (operandBytes op) with h0 | h0
    · rcases Nat.lt_or_ge 1 (operandBytes op) with h1 | h1
      · have e : operandBytes op = 2 := by omega
        rw [e] at h ⊢
        match rest, h with
        | b1 :: b2 :: more, _ => exact ⟨decodeMain op b1 b2, rfl⟩
        | [b1], h => simp at h
        | [], h => simp at h
      · have e : operandBytes op = 1 := by omega
        rw [e] at h ⊢
        match rest, h with
        | b1 :: more, _ => exact ⟨decodeMain op b1 0, rfl⟩
        | [], h => simp at h
    · have e : operandBytes op = 0 := by omega
      rw [e]
      exact ⟨decodeMain op 0 0, rfl⟩

end Sys2Proof
end

