-- ==== Sys2Proof/Laws/View.lean ====
section
/-! SUPPORT. Every instruction by its form: the case analysis of the opcode maps (30_encoding.md R112 to R117), so
that a proof about all instructions has one case per form and not one per opcode; and, for each form, its meaning
and what it may change. -/

namespace Sys2Proof

/-- An instruction is one of the forms of the opcode maps. -/
inductive View : Instr → Prop where
  | ldRegReg (d : Reg8) (r : Reg8) : View (Forms.ldRegReg d r)
  | ldRegImm (d : Reg8) (n : Byte) : View (Forms.ldRegImm d n)
  | ldRegMem (d : Reg8) : View (Forms.ldRegMem d)
  | ldMemReg (r : Reg8) : View (Forms.ldMemReg r)
  | ldPairImm (p : Pair) (nn : Word) : View (Forms.ldPairImm p nn)
  | push (q : StackPair) : View (Forms.push q)
  | pop (q : StackPair) : View (Forms.pop q)
  | aluReg (op : AluOp) (r : Reg8) : View (Forms.aluReg op r)
  | aluMem (op : AluOp) : View (Forms.aluMem op)
  | aluImm (op : AluOp) (n : Byte) : View (Forms.aluImm op n)
  | incReg (r : Reg8) : View (Forms.incReg r)
  | decReg (r : Reg8) : View (Forms.decReg r)
  | addHlPair (p : Pair) : View (Forms.addHlPair p)
  | incPair (p : Pair) : View (Forms.incPair p)
  | decPair (p : Pair) : View (Forms.decPair p)
  | jpCond (cc : Cond) (nn : Word) : View (Forms.jpCond cc nn)
  | jrCond (cc : Cond) (e : Byte) : View (Forms.jrCond cc e)
  | callCond (cc : Cond) (nn : Word) : View (Forms.callCond cc nn)
  | retCond (cc : Cond) : View (Forms.retCond cc)
  | rst (y : Oct) : View (Forms.rst y)
  | rotReg (op : RotOp) (r : Reg8) : View (Forms.rotReg op r)
  | rotMem (op : RotOp) : View (Forms.rotMem op)
  | bitReg (b : Oct) (r : Reg8) : View (Forms.bitReg b r)
  | bitMem (b : Oct) : View (Forms.bitMem b)
  | resReg (b : Oct) (r : Reg8) : View (Forms.resReg b r)
  | resMem (b : Oct) : View (Forms.resMem b)
  | setReg (b : Oct) (r : Reg8) : View (Forms.setReg b r)
  | setMem (b : Oct) : View (Forms.setMem b)
  | nop : View .nop
  | ld_mBC_A : View .ld_mBC_A
  | rlca : View .rlca
  | ld_mnn_SP (nn : Word) : View (.ld_mnn_SP nn)
  | ld_A_mBC : View .ld_A_mBC
  | rrca : View .rrca
  | stop (n : Byte) : View (.stop n)
  | ld_mDE_A : View .ld_mDE_A
  | rla : View .rla
  | jr_e (e : Byte) : View (.jr_e e)
  | ld_A_mDE : View .ld_A_mDE
  | rra : View .rra
  | ld_mHLinc_A : View .ld_mHLinc_A
  | daa : View .daa
  | ld_A_mHLinc : View .ld_A_mHLinc
  | cpl : View .cpl
  | ld_mHLdec_A : View .ld_mHLdec_A
  | inc_mHL : View .inc_mHL
  | dec_mHL : View .dec_mHL
  | ld_mHL_n (n : Byte) : View (.ld_mHL_n n)
  | scf : View .scf
  | ld_A_mHLdec : View .ld_A_mHLdec
  | ccf : View .ccf
  | halt : View .halt
  | jp_nn (nn : Word) : View (.jp_nn nn)
  | ret : View .ret
  | call_nn (nn : Word) : View (.call_nn nn)
  | illegal (op : Byte) : View (.illegal op)
  | reti : View .reti
  | ldh_mn_A (n : Byte) : View (.ldh_mn_A n)
  | ldh_mC_A : View .ldh_mC_A
  | add_SP_e (e : Byte) : View (.add_SP_e e)
  | jp_HL : View .jp_HL
  | ld_mnn_A (nn : Word) : View (.ld_mnn_A nn)
  | ldh_A_mn (n : Byte) : View (.ldh_A_mn n)
  | ldh_A_mC : View .ldh_A_mC
  | di : View .di
  | ld_HL_SPe (e : Byte) : View (.ld_HL_SPe e)
  | ld_SP_HL : View .ld_SP_HL
  | ld_A_mnn (nn : Word) : View (.ld_A_mnn nn)
  | ei : View .ei

/-- Every instruction has a form. -/
theorem view (i : Instr) : View i := by
  cases i with
  | nop => exact .nop
  | ld_BC_nn nn => exact .ldPairImm .BC nn
  | ld_mBC_A => exact .ld_mBC_A
  | inc_BC => exact .incPair .BC
  | inc_B => exact .incReg .B
  | dec_B => exact .decReg .B
  | ld_B_n n => exact .ldRegImm .B n
  | rlca => exact .rlca
  | ld_mnn_SP nn => exact .ld_mnn_SP nn
  | add_HL_BC => exact .addHlPair .BC
  | ld_A_mBC => exact .ld_A_mBC
  | dec_BC => exact .decPair .BC
  | inc_C => exact .incReg .C
  | dec_C => exact .decReg .C
  | ld_C_n n => exact .ldRegImm .C n
  | rrca => exact .rrca
  | stop n => exact .stop n
  | ld_DE_nn nn => exact .ldPairImm .DE nn
  | ld_mDE_A => exact .ld_mDE_A
  | inc_DE => exact .incPair .DE
  | inc_D => exact .incReg .D
  | dec_D => exact .decReg .D
  | ld_D_n n => exact .ldRegImm .D n
  | rla => exact .rla
  | jr_e e => exact .jr_e e
  | add_HL_DE => exact .addHlPair .DE
  | ld_A_mDE => exact .ld_A_mDE
  | dec_DE => exact .decPair .DE
  | inc_E => exact .incReg .E
  | dec_E => exact .decReg .E
  | ld_E_n n => exact .ldRegImm .E n
  | rra => exact .rra
  | jr_NZ_e e => exact .jrCond .nz e
  | ld_HL_nn nn => exact .ldPairImm .HL nn
  | ld_mHLinc_A => exact .ld_mHLinc_A
  | inc_HL => exact .incPair .HL
  | inc_H => exact .incReg .H
  | dec_H => exact .decReg .H
  | ld_H_n n => exact .ldRegImm .H n
  | daa => exact .daa
  | jr_Z_e e => exact .jrCond .z e
  | add_HL_HL => exact .addHlPair .HL
  | ld_A_mHLinc => exact .ld_A_mHLinc
  | dec_HL => exact .decPair .HL
  | inc_L => exact .incReg .L
  | dec_L => exact .decReg .L
  | ld_L_n n => exact .ldRegImm .L n
  | cpl => exact .cpl
  | jr_NC_e e => exact .jrCond .nc e
  | ld_SP_nn nn => exact .ldPairImm .SP nn
  | ld_mHLdec_A => exact .ld_mHLdec_A
  | inc_SP => exact .incPair .SP
  | inc_mHL => exact .inc_mHL
  | dec_mHL => exact .dec_mHL
  | ld_mHL_n n => exact .ld_mHL_n n
  | scf => exact .scf
  | jr_C_e e => exact .jrCond .c e
  | add_HL_SP => exact .addHlPair .SP
  | ld_A_mHLdec => exact .ld_A_mHLdec
  | dec_SP => exact .decPair .SP
  | inc_A => exact .incReg .A
  | dec_A => exact .decReg .A
  | ld_A_n n => exact .ldRegImm .A n
  | ccf => exact .ccf
  | ld_B_B => exact .ldRegReg .B .B
  | ld_B_C => exact .ldRegReg .B .C
  | ld_B_D => exact .ldRegReg .B .D
  | ld_B_E => exact .ldRegReg .B .E
  | ld_B_H => exact .ldRegReg .B .H
  | ld_B_L => exact .ldRegReg .B .L
  | ld_B_mHL => exact .ldRegMem .B
  | ld_B_A => exact .ldRegReg .B .A
  | ld_C_B => exact .ldRegReg .C .B
  | ld_C_C => exact .ldRegReg .C .C
  | ld_C_D => exact .ldRegReg .C .D
  | ld_C_E => exact .ldRegReg .C .E
  | ld_C_H => exact .ldRegReg .C .H
  | ld_C_L => exact .ldRegReg .C .L
  | ld_C_mHL => exact .ldRegMem .C
  | ld_C_A => exact .ldRegReg .C .A
  | ld_D_B => exact .ldRegReg .D .B
  | ld_D_C => exact .ldRegReg .D .C
  | ld_D_D => exact .ldRegReg .D .D
  | ld_D_E => exact .ldRegReg .D .E
  | ld_D_H => exact .ldRegReg .D .H
  | ld_D_L => exact .ldRegReg .D .L
  | ld_D_mHL => exact .ldRegMem .D
  | ld_D_A => exact .ldRegReg .D .A
  | ld_E_B => exact .ldRegReg .E .B
  | ld_E_C => exact .ldRegReg .E .C
  | ld_E_D => exact .ldRegReg .E .D
  | ld_E_E => exact .ldRegReg .E .E
  | ld_E_H => exact .ldRegReg .E .H
  | ld_E_L => exact .ldRegReg .E .L
  | ld_E_mHL => exact .ldRegMem .E
  | ld_E_A => exact .ldRegReg .E .A
  | ld_H_B => exact .ldRegReg .H .B
  | ld_H_C => exact .ldRegReg .H .C
  | ld_H_D => exact .ldRegReg .H .D
  | ld_H_E => exact .ldRegReg .H .E
  | ld_H_H => exact .ldRegReg .H .H
  | ld_H_L => exact .ldRegReg .H .L
  | ld_H_mHL => exact .ldRegMem .H
  | ld_H_A => exact .ldRegReg .H .A
  | ld_L_B => exact .ldRegReg .L .B
  | ld_L_C => exact .ldRegReg .L .C
  | ld_L_D => exact .ldRegReg .L .D
  | ld_L_E => exact .ldRegReg .L .E
  | ld_L_H => exact .ldRegReg .L .H
  | ld_L_L => exact .ldRegReg .L .L
  | ld_L_mHL => exact .ldRegMem .L
  | ld_L_A => exact .ldRegReg .L .A
  | ld_mHL_B => exact .ldMemReg .B
  | ld_mHL_C => exact .ldMemReg .C
  | ld_mHL_D => exact .ldMemReg .D
  | ld_mHL_E => exact .ldMemReg .E
  | ld_mHL_H => exact .ldMemReg .H
  | ld_mHL_L => exact .ldMemReg .L
  | halt => exact .halt
  | ld_mHL_A => exact .ldMemReg .A
  | ld_A_B => exact .ldRegReg .A .B
  | ld_A_C => exact .ldRegReg .A .C
  | ld_A_D => exact .ldRegReg .A .D
  | ld_A_E => exact .ldRegReg .A .E
  | ld_A_H => exact .ldRegReg .A .H
  | ld_A_L => exact .ldRegReg .A .L
  | ld_A_mHL => exact .ldRegMem .A
  | ld_A_A => exact .ldRegReg .A .A
  | add_A_B => exact .aluReg .add .B
  | add_A_C => exact .aluReg .add .C
  | add_A_D => exact .aluReg .add .D
  | add_A_E => exact .aluReg .add .E
  | add_A_H => exact .aluReg .add .H
  | add_A_L => exact .aluReg .add .L
  | add_A_mHL => exact .aluMem .add
  | add_A_A => exact .aluReg .add .A
  | adc_A_B => exact .aluReg .adc .B
  | adc_A_C => exact .aluReg .adc .C
  | adc_A_D => exact .aluReg .adc .D
  | adc_A_E => exact .aluReg .adc .E
  | adc_A_H => exact .aluReg .adc .H
  | adc_A_L => exact .aluReg .adc .L
  | adc_A_mHL => exact .aluMem .adc
  | adc_A_A => exact .aluReg .adc .A
  | sub_A_B => exact .aluReg .sub .B
  | sub_A_C => exact .aluReg .sub .C
  | sub_A_D => exact .aluReg .sub .D
  | sub_A_E => exact .aluReg .sub .E
  | sub_A_H => exact .aluReg .sub .H
  | sub_A_L => exact .aluReg .sub .L
  | sub_A_mHL => exact .aluMem .sub
  | sub_A_A => exact .aluReg .sub .A
  | sbc_A_B => exact .aluReg .sbc .B
  | sbc_A_C => exact .aluReg .sbc .C
  | sbc_A_D => exact .aluReg .sbc .D
  | sbc_A_E => exact .aluReg .sbc .E
  | sbc_A_H => exact .aluReg .sbc .H
  | sbc_A_L => exact .aluReg .sbc .L
  | sbc_A_mHL => exact .aluMem .sbc
  | sbc_A_A => exact .aluReg .sbc .A
  | and_A_B => exact .aluReg .and .B
  | and_A_C => exact .aluReg .and .C
  | and_A_D => exact .aluReg .and .D
  | and_A_E => exact .aluReg .and .E
  | and_A_H => exact .aluReg .and .H
  | and_A_L => exact .aluReg .and .L
  | and_A_mHL => exact .aluMem .and
  | and_A_A => exact .aluReg .and .A
  | xor_A_B => exact .aluReg .xor .B
  | xor_A_C => exact .aluReg .xor .C
  | xor_A_D => exact .aluReg .xor .D
  | xor_A_E => exact .aluReg .xor .E
  | xor_A_H => exact .aluReg .xor .H
  | xor_A_L => exact .aluReg .xor .L
  | xor_A_mHL => exact .aluMem .xor
  | xor_A_A => exact .aluReg .xor .A
  | or_A_B => exact .aluReg .or .B
  | or_A_C => exact .aluReg .or .C
  | or_A_D => exact .aluReg .or .D
  | or_A_E => exact .aluReg .or .E
  | or_A_H => exact .aluReg .or .H
  | or_A_L => exact .aluReg .or .L
  | or_A_mHL => exact .aluMem .or
  | or_A_A => exact .aluReg .or .A
  | cp_A_B => exact .aluReg .cp .B
  | cp_A_C => exact .aluReg .cp .C
  | cp_A_D => exact .aluReg .cp .D
  | cp_A_E => exact .aluReg .cp .E
  | cp_A_H => exact .aluReg .cp .H
  | cp_A_L => exact .aluReg .cp .L
  | cp_A_mHL => exact .aluMem .cp
  | cp_A_A => exact .aluReg .cp .A
  | ret_NZ => exact .retCond .nz
  | pop_BC => exact .pop .BC
  | jp_NZ_nn nn => exact .jpCond .nz nn
  | jp_nn nn => exact .jp_nn nn
  | call_NZ_nn nn => exact .callCond .nz nn
  | push_BC => exact .push .BC
  | add_A_n n => exact .aluImm .add n
  | rst_00 => exact .rst .o0
  | ret_Z => exact .retCond .z
  | ret => exact .ret
  | jp_Z_nn nn => exact .jpCond .z nn
  | call_Z_nn nn => exact .callCond .z nn
  | call_nn nn => exact .call_nn nn
  | adc_A_n n => exact .aluImm .adc n
  | rst_08 => exact .rst .o1
  | ret_NC => exact .retCond .nc
  | pop_DE => exact .pop .DE
  | jp_NC_nn nn => exact .jpCond .nc nn
  | illegal op => exact .illegal op
  | call_NC_nn nn => exact .callCond .nc nn
  | push_DE => exact .push .DE
  | sub_A_n n => exact .aluImm .sub n
  | rst_10 => exact .rst .o2
  | ret_C => exact .retCond .c
  | reti => exact .reti
  | jp_C_nn nn => exact .jpCond .c nn
  | call_C_nn nn => exact .callCond .c nn
  | sbc_A_n n => exact .aluImm .sbc n
  | rst_18 => exact .rst .o3
  | ldh_mn_A n => exact .ldh_mn_A n
  | pop_HL => exact .pop .HL
  | ldh_mC_A => exact .ldh_mC_A
  | push_HL => exact .push .HL
  | and_A_n n => exact .aluImm .and n
  | rst_20 => exact .rst .o4
  | add_SP_e e => exact .add_SP_e e
  | jp_HL => exact .jp_HL
  | ld_mnn_A nn => exact .ld_mnn_A nn
  | xor_A_n n => exact .aluImm .xor n
  | rst_28 => exact .rst .o5
  | ldh_A_mn n => exact .ldh_A_mn n
  | pop_AF => exact .pop .AF
  | ldh_A_mC => exact .ldh_A_mC
  | di => exact .di
  | push_AF => exact .push .AF
  | or_A_n n => exact .aluImm .or n
  | rst_30 => exact .rst .o6
  | ld_HL_SPe e => exact .ld_HL_SPe e
  | ld_SP_HL => exact .ld_SP_HL
  | ld_A_mnn nn => exact .ld_A_mnn nn
  | ei => exact .ei
  | cp_A_n n => exact .aluImm .cp n
  | rst_38 => exact .rst .o7
  | rlc_B => exact .rotReg .rlc .B
  | rlc_C => exact .rotReg .rlc .C
  | rlc_D => exact .rotReg .rlc .D
  | rlc_E => exact .rotReg .rlc .E
  | rlc_H => exact .rotReg .rlc .H
  | rlc_L => exact .rotReg .rlc .L
  | rlc_mHL => exact .rotMem .rlc
  | rlc_A => exact .rotReg .rlc .A
  | rrc_B => exact .rotReg .rrc .B
  | rrc_C => exact .rotReg .rrc .C
  | rrc_D => exact .rotReg .rrc .D
  | rrc_E => exact .rotReg .rrc .E
  | rrc_H => exact .rotReg .rrc .H
  | rrc_L => exact .rotReg .rrc .L
  | rrc_mHL => exact .rotMem .rrc
  | rrc_A => exact .rotReg .rrc .A
  | rl_B => exact .rotReg .rl .B
  | rl_C => exact .rotReg .rl .C
  | rl_D => exact .rotReg .rl .D
  | rl_E => exact .rotReg .rl .E
  | rl_H => exact .rotReg .rl .H
  | rl_L => exact .rotReg .rl .L
  | rl_mHL => exact .rotMem .rl
  | rl_A => exact .rotReg .rl .A
  | rr_B => exact .rotReg .rr .B
  | rr_C => exact .rotReg .rr .C
  | rr_D => exact .rotReg .rr .D
  | rr_E => exact .rotReg .rr .E
  | rr_H => exact .rotReg .rr .H
  | rr_L => exact .rotReg .rr .L
  | rr_mHL => exact .rotMem .rr
  | rr_A => exact .rotReg .rr .A
  | sla_B => exact .rotReg .sla .B
  | sla_C => exact .rotReg .sla .C
  | sla_D => exact .rotReg .sla .D
  | sla_E => exact .rotReg .sla .E
  | sla_H => exact .rotReg .sla .H
  | sla_L => exact .rotReg .sla .L
  | sla_mHL => exact .rotMem .sla
  | sla_A => exact .rotReg .sla .A
  | sra_B => exact .rotReg .sra .B
  | sra_C => exact .rotReg .sra .C
  | sra_D => exact .rotReg .sra .D
  | sra_E => exact .rotReg .sra .E
  | sra_H => exact .rotReg .sra .H
  | sra_L => exact .rotReg .sra .L
  | sra_mHL => exact .rotMem .sra
  | sra_A => exact .rotReg .sra .A
  | swap_B => exact .rotReg .swap .B
  | swap_C => exact .rotReg .swap .C
  | swap_D => exact .rotReg .swap .D
  | swap_E => exact .rotReg .swap .E
  | swap_H => exact .rotReg .swap .H
  | swap_L => exact .rotReg .swap .L
  | swap_mHL => exact .rotMem .swap
  | swap_A => exact .rotReg .swap .A
  | srl_B => exact .rotReg .srl .B
  | srl_C => exact .rotReg .srl .C
  | srl_D => exact .rotReg .srl .D
  | srl_E => exact .rotReg .srl .E
  | srl_H => exact .rotReg .srl .H
  | srl_L => exact .rotReg .srl .L
  | srl_mHL => exact .rotMem .srl
  | srl_A => exact .rotReg .srl .A
  | bit_0_B => exact .bitReg .o0 .B
  | bit_0_C => exact .bitReg .o0 .C
  | bit_0_D => exact .bitReg .o0 .D
  | bit_0_E => exact .bitReg .o0 .E
  | bit_0_H => exact .bitReg .o0 .H
  | bit_0_L => exact .bitReg .o0 .L
  | bit_0_mHL => exact .bitMem .o0
  | bit_0_A => exact .bitReg .o0 .A
  | bit_1_B => exact .bitReg .o1 .B
  | bit_1_C => exact .bitReg .o1 .C
  | bit_1_D => exact .bitReg .o1 .D
  | bit_1_E => exact .bitReg .o1 .E
  | bit_1_H => exact .bitReg .o1 .H
  | bit_1_L => exact .bitReg .o1 .L
  | bit_1_mHL => exact .bitMem .o1
  | bit_1_A => exact .bitReg .o1 .A
  | bit_2_B => exact .bitReg .o2 .B
  | bit_2_C => exact .bitReg .o2 .C
  | bit_2_D => exact .bitReg .o2 .D
  | bit_2_E => exact .bitReg .o2 .E
  | bit_2_H => exact .bitReg .o2 .H
  | bit_2_L => exact .bitReg .o2 .L
  | bit_2_mHL => exact .bitMem .o2
  | bit_2_A => exact .bitReg .o2 .A
  | bit_3_B => exact .bitReg .o3 .B
  | bit_3_C => exact .bitReg .o3 .C
  | bit_3_D => exact .bitReg .o3 .D
  | bit_3_E => exact .bitReg .o3 .E
  | bit_3_H => exact .bitReg .o3 .H
  | bit_3_L => exact .bitReg .o3 .L
  | bit_3_mHL => exact .bitMem .o3
  | bit_3_A => exact .bitReg .o3 .A
  | bit_4_B => exact .bitReg .o4 .B
  | bit_4_C => exact .bitReg .o4 .C
  | bit_4_D => exact .bitReg .o4 .D
  | bit_4_E => exact .bitReg .o4 .E
  | bit_4_H => exact .bitReg .o4 .H
  | bit_4_L => exact .bitReg .o4 .L
  | bit_4_mHL => exact .bitMem .o4
  | bit_4_A => exact .bitReg .o4 .A
  | bit_5_B => exact .bitReg .o5 .B
  | bit_5_C => exact .bitReg .o5 .C
  | bit_5_D => exact .bitReg .o5 .D
  | bit_5_E => exact .bitReg .o5 .E
  | bit_5_H => exact .bitReg .o5 .H
  | bit_5_L => exact .bitReg .o5 .L
  | bit_5_mHL => exact .bitMem .o5
  | bit_5_A => exact .bitReg .o5 .A
  | bit_6_B => exact .bitReg .o6 .B
  | bit_6_C => exact .bitReg .o6 .C
  | bit_6_D => exact .bitReg .o6 .D
  | bit_6_E => exact .bitReg .o6 .E
  | bit_6_H => exact .bitReg .o6 .H
  | bit_6_L => exact .bitReg .o6 .L
  | bit_6_mHL => exact .bitMem .o6
  | bit_6_A => exact .bitReg .o6 .A
  | bit_7_B => exact .bitReg .o7 .B
  | bit_7_C => exact .bitReg .o7 .C
  | bit_7_D => exact .bitReg .o7 .D
  | bit_7_E => exact .bitReg .o7 .E
  | bit_7_H => exact .bitReg .o7 .H
  | bit_7_L => exact .bitReg .o7 .L
  | bit_7_mHL => exact .bitMem .o7
  | bit_7_A => exact .bitReg .o7 .A
  | res_0_B => exact .resReg .o0 .B
  | res_0_C => exact .resReg .o0 .C
  | res_0_D => exact .resReg .o0 .D
  | res_0_E => exact .resReg .o0 .E
  | res_0_H => exact .resReg .o0 .H
  | res_0_L => exact .resReg .o0 .L
  | res_0_mHL => exact .resMem .o0
  | res_0_A => exact .resReg .o0 .A
  | res_1_B => exact .resReg .o1 .B
  | res_1_C => exact .resReg .o1 .C
  | res_1_D => exact .resReg .o1 .D
  | res_1_E => exact .resReg .o1 .E
  | res_1_H => exact .resReg .o1 .H
  | res_1_L => exact .resReg .o1 .L
  | res_1_mHL => exact .resMem .o1
  | res_1_A => exact .resReg .o1 .A
  | res_2_B => exact .resReg .o2 .B
  | res_2_C => exact .resReg .o2 .C
  | res_2_D => exact .resReg .o2 .D
  | res_2_E => exact .resReg .o2 .E
  | res_2_H => exact .resReg .o2 .H
  | res_2_L => exact .resReg .o2 .L
  | res_2_mHL => exact .resMem .o2
  | res_2_A => exact .resReg .o2 .A
  | res_3_B => exact .resReg .o3 .B
  | res_3_C => exact .resReg .o3 .C
  | res_3_D => exact .resReg .o3 .D
  | res_3_E => exact .resReg .o3 .E
  | res_3_H => exact .resReg .o3 .H
  | res_3_L => exact .resReg .o3 .L
  | res_3_mHL => exact .resMem .o3
  | res_3_A => exact .resReg .o3 .A
  | res_4_B => exact .resReg .o4 .B
  | res_4_C => exact .resReg .o4 .C
  | res_4_D => exact .resReg .o4 .D
  | res_4_E => exact .resReg .o4 .E
  | res_4_H => exact .resReg .o4 .H
  | res_4_L => exact .resReg .o4 .L
  | res_4_mHL => exact .resMem .o4
  | res_4_A => exact .resReg .o4 .A
  | res_5_B => exact .resReg .o5 .B
  | res_5_C => exact .resReg .o5 .C
  | res_5_D => exact .resReg .o5 .D
  | res_5_E => exact .resReg .o5 .E
  | res_5_H => exact .resReg .o5 .H
  | res_5_L => exact .resReg .o5 .L
  | res_5_mHL => exact .resMem .o5
  | res_5_A => exact .resReg .o5 .A
  | res_6_B => exact .resReg .o6 .B
  | res_6_C => exact .resReg .o6 .C
  | res_6_D => exact .resReg .o6 .D
  | res_6_E => exact .resReg .o6 .E
  | res_6_H => exact .resReg .o6 .H
  | res_6_L => exact .resReg .o6 .L
  | res_6_mHL => exact .resMem .o6
  | res_6_A => exact .resReg .o6 .A
  | res_7_B => exact .resReg .o7 .B
  | res_7_C => exact .resReg .o7 .C
  | res_7_D => exact .resReg .o7 .D
  | res_7_E => exact .resReg .o7 .E
  | res_7_H => exact .resReg .o7 .H
  | res_7_L => exact .resReg .o7 .L
  | res_7_mHL => exact .resMem .o7
  | res_7_A => exact .resReg .o7 .A
  | set_0_B => exact .setReg .o0 .B
  | set_0_C => exact .setReg .o0 .C
  | set_0_D => exact .setReg .o0 .D
  | set_0_E => exact .setReg .o0 .E
  | set_0_H => exact .setReg .o0 .H
  | set_0_L => exact .setReg .o0 .L
  | set_0_mHL => exact .setMem .o0
  | set_0_A => exact .setReg .o0 .A
  | set_1_B => exact .setReg .o1 .B
  | set_1_C => exact .setReg .o1 .C
  | set_1_D => exact .setReg .o1 .D
  | set_1_E => exact .setReg .o1 .E
  | set_1_H => exact .setReg .o1 .H
  | set_1_L => exact .setReg .o1 .L
  | set_1_mHL => exact .setMem .o1
  | set_1_A => exact .setReg .o1 .A
  | set_2_B => exact .setReg .o2 .B
  | set_2_C => exact .setReg .o2 .C
  | set_2_D => exact .setReg .o2 .D
  | set_2_E => exact .setReg .o2 .E
  | set_2_H => exact .setReg .o2 .H
  | set_2_L => exact .setReg .o2 .L
  | set_2_mHL => exact .setMem .o2
  | set_2_A => exact .setReg .o2 .A
  | set_3_B => exact .setReg .o3 .B
  | set_3_C => exact .setReg .o3 .C
  | set_3_D => exact .setReg .o3 .D
  | set_3_E => exact .setReg .o3 .E
  | set_3_H => exact .setReg .o3 .H
  | set_3_L => exact .setReg .o3 .L
  | set_3_mHL => exact .setMem .o3
  | set_3_A => exact .setReg .o3 .A
  | set_4_B => exact .setReg .o4 .B
  | set_4_C => exact .setReg .o4 .C
  | set_4_D => exact .setReg .o4 .D
  | set_4_E => exact .setReg .o4 .E
  | set_4_H => exact .setReg .o4 .H
  | set_4_L => exact .setReg .o4 .L
  | set_4_mHL => exact .setMem .o4
  | set_4_A => exact .setReg .o4 .A
  | set_5_B => exact .setReg .o5 .B
  | set_5_C => exact .setReg .o5 .C
  | set_5_D => exact .setReg .o5 .D
  | set_5_E => exact .setReg .o5 .E
  | set_5_H => exact .setReg .o5 .H
  | set_5_L => exact .setReg .o5 .L
  | set_5_mHL => exact .setMem .o5
  | set_5_A => exact .setReg .o5 .A
  | set_6_B => exact .setReg .o6 .B
  | set_6_C => exact .setReg .o6 .C
  | set_6_D => exact .setReg .o6 .D
  | set_6_E => exact .setReg .o6 .E
  | set_6_H => exact .setReg .o6 .H
  | set_6_L => exact .setReg .o6 .L
  | set_6_mHL => exact .setMem .o6
  | set_6_A => exact .setReg .o6 .A
  | set_7_B => exact .setReg .o7 .B
  | set_7_C => exact .setReg .o7 .C
  | set_7_D => exact .setReg .o7 .D
  | set_7_E => exact .setReg .o7 .E
  | set_7_H => exact .setReg .o7 .H
  | set_7_L => exact .setReg .o7 .L
  | set_7_mHL => exact .setMem .o7
  | set_7_A => exact .setReg .o7 .A

namespace Machine

/-! ### The meaning of each form -/

theorem exec_ldRegReg (d : Reg8) (r : Reg8) (s : State) : exec (Forms.ldRegReg d r) s = loadRegReg d r s := by
  cases d <;> cases r <;> rfl

theorem exec_ldRegImm (d : Reg8) (n : Byte) (s : State) : exec (Forms.ldRegImm d n) s = loadRegImm d n s := by
  cases d <;> rfl

theorem exec_ldRegMem (d : Reg8) (s : State) : exec (Forms.ldRegMem d) s = loadRegMem d s.hl s := by
  cases d <;> rfl

theorem exec_ldMemReg (r : Reg8) (s : State) : exec (Forms.ldMemReg r) s = storeByte s.hl (s.reg r) s := by
  cases r <;> rfl

theorem exec_ldPairImm (p : Pair) (nn : Word) (s : State) : exec (Forms.ldPairImm p nn) s = loadPairImm p nn s := by
  cases p <;> rfl

theorem exec_push (q : StackPair) (s : State) : exec (Forms.push q) s = pushPair q s := by
  cases q <;> rfl

theorem exec_pop (q : StackPair) (s : State) : exec (Forms.pop q) s = popPair q s := by
  cases q <;> rfl

theorem exec_aluReg (op : AluOp) (r : Reg8) (s : State) : exec (Forms.aluReg op r) s = aluReg op r s := by
  cases op <;> cases r <;> rfl

theorem exec_aluMem (op : AluOp) (s : State) : exec (Forms.aluMem op) s = aluMem op s := by
  cases op <;> rfl

theorem exec_aluImm (op : AluOp) (n : Byte) (s : State) : exec (Forms.aluImm op n) s = aluImm op n s := by
  cases op <;> rfl

theorem exec_incReg (r : Reg8) (s : State) : exec (Forms.incReg r) s = incReg r s := by
  cases r <;> rfl

theorem exec_decReg (r : Reg8) (s : State) : exec (Forms.decReg r) s = decReg r s := by
  cases r <;> rfl

theorem exec_addHlPair (p : Pair) (s : State) : exec (Forms.addHlPair p) s = addHlPair p s := by
  cases p <;> rfl

theorem exec_incPair (p : Pair) (s : State) : exec (Forms.incPair p) s = incPair p s := by
  cases p <;> rfl

theorem exec_decPair (p : Pair) (s : State) : exec (Forms.decPair p) s = decPair p s := by
  cases p <;> rfl

theorem exec_jpCond (cc : Cond) (nn : Word) (s : State) : exec (Forms.jpCond cc nn) s = jumpIf cc nn s := by
  cases cc <;> rfl

theorem exec_jrCond (cc : Cond) (e : Byte) (s : State) : exec (Forms.jrCond cc e) s = jumpIf cc (s.pc + sext16 e) s := by
  cases cc <;> rfl

theorem exec_callCond (cc : Cond) (nn : Word) (s : State) : exec (Forms.callCond cc nn) s = callIf cc nn s := by
  cases cc <;> rfl

theorem exec_retCond (cc : Cond) (s : State) : exec (Forms.retCond cc) s = returnIf cc s := by
  cases cc <;> rfl

theorem exec_rst (y : Oct) (s : State) : exec (Forms.rst y) s = restart y s := by
  cases y <;> rfl

theorem exec_rotReg (op : RotOp) (r : Reg8) (s : State) : exec (Forms.rotReg op r) s = rotReg op r s := by
  cases op <;> cases r <;> rfl

theorem exec_rotMem (op : RotOp) (s : State) : exec (Forms.rotMem op) s = rotMem op s := by
  cases op <;> rfl

theorem exec_bitReg (b : Oct) (r : Reg8) (s : State) : exec (Forms.bitReg b r) s = bitReg b r s := by
  cases b <;> cases r <;> rfl

theorem exec_bitMem (b : Oct) (s : State) : exec (Forms.bitMem b) s = bitMem b s := by
  cases b <;> rfl

theorem exec_resReg (b : Oct) (r : Reg8) (s : State) : exec (Forms.resReg b r) s = resReg b r s := by
  cases b <;> cases r <;> rfl

theorem exec_resMem (b : Oct) (s : State) : exec (Forms.resMem b) s = resMem b s := by
  cases b <;> rfl

theorem exec_setReg (b : Oct) (r : Reg8) (s : State) : exec (Forms.setReg b r) s = setBitReg b r s := by
  cases b <;> cases r <;> rfl

theorem exec_setMem (b : Oct) (s : State) : exec (Forms.setMem b) s = setBitMem b s := by
  cases b <;> rfl

/-! ### What each form may change -/

theorem destRegs_ldRegReg (d : Reg8) (r : Reg8) : destRegs (Forms.ldRegReg d r) = [d] := by
  cases d <;> cases r <;> rfl
theorem writesFlags_ldRegReg (d : Reg8) (r : Reg8) : writesFlags (Forms.ldRegReg d r) = false := by
  cases d <;> cases r <;> rfl
theorem writesSp_ldRegReg (d : Reg8) (r : Reg8) : writesSp (Forms.ldRegReg d r) = false := by
  cases d <;> cases r <;> rfl
theorem writesPc_ldRegReg (d : Reg8) (r : Reg8) : writesPc (Forms.ldRegReg d r) = false := by
  cases d <;> cases r <;> rfl
theorem storeAddrs_ldRegReg (d : Reg8) (r : Reg8) (s : State) : storeAddrs (Forms.ldRegReg d r) s = [] := by
  cases d <;> cases r <;> rfl

theorem opcodeKey_ldRegImm (d : Reg8) (n : Byte) : opcodeKey (Forms.ldRegImm d n) = opcodeKey (Forms.ldRegImm d 0) := by
  cases d <;> rfl
theorem destRegs_ldRegImm (d : Reg8) (n : Byte) : destRegs (Forms.ldRegImm d n) = [d] := by
  rw [destRegs, opcodeKey_ldRegImm]
  cases d <;> rfl
theorem writesFlags_ldRegImm (d : Reg8) (n : Byte) : writesFlags (Forms.ldRegImm d n) = false := by
  rw [writesFlags, opcodeKey_ldRegImm]
  cases d <;> rfl
theorem writesSp_ldRegImm (d : Reg8) (n : Byte) : writesSp (Forms.ldRegImm d n) = false := by
  rw [writesSp, opcodeKey_ldRegImm]
  cases d <;> rfl
theorem writesPc_ldRegImm (d : Reg8) (n : Byte) : writesPc (Forms.ldRegImm d n) = false := by
  rw [writesPc, opcodeKey_ldRegImm]
  cases d <;> rfl
theorem storeAddrs_ldRegImm (d : Reg8) (n : Byte) (s : State) : storeAddrs (Forms.ldRegImm d n) s = [] := by
  rw [show storeAddrs (Forms.ldRegImm d n) s = storeAddrsOf (opcodeKey (Forms.ldRegImm d n)) s by cases d <;> rfl, opcodeKey_ldRegImm]
  cases d <;> rfl

theorem destRegs_ldRegMem (d : Reg8) : destRegs (Forms.ldRegMem d) = [d] := by
  cases d <;> rfl
theorem writesFlags_ldRegMem (d : Reg8) : writesFlags (Forms.ldRegMem d) = false := by
  cases d <;> rfl
theorem writesSp_ldRegMem (d : Reg8) : writesSp (Forms.ldRegMem d) = false := by
  cases d <;> rfl
theorem writesPc_ldRegMem (d : Reg8) : writesPc (Forms.ldRegMem d) = false := by
  cases d <;> rfl
theorem storeAddrs_ldRegMem (d : Reg8) (s : State) : storeAddrs (Forms.ldRegMem d) s = [] := by
  cases d <;> rfl

theorem destRegs_ldMemReg (r : Reg8) : destRegs (Forms.ldMemReg r) = [] := by
  cases r <;> rfl
theorem writesFlags_ldMemReg (r : Reg8) : writesFlags (Forms.ldMemReg r) = false := by
  cases r <;> rfl
theorem writesSp_ldMemReg (r : Reg8) : writesSp (Forms.ldMemReg r) = false := by
  cases r <;> rfl
theorem writesPc_ldMemReg (r : Reg8) : writesPc (Forms.ldMemReg r) = false := by
  cases r <;> rfl
theorem storeAddrs_ldMemReg (r : Reg8) (s : State) : storeAddrs (Forms.ldMemReg r) s = [s.hl] := by
  cases r <;> rfl

theorem opcodeKey_ldPairImm (p : Pair) (nn : Word) : opcodeKey (Forms.ldPairImm p nn) = opcodeKey (Forms.ldPairImm p 0) := by
  cases p <;> rfl
theorem destRegs_ldPairImm (p : Pair) (nn : Word) : destRegs (Forms.ldPairImm p nn) = pairRegs p := by
  rw [destRegs, opcodeKey_ldPairImm]
  cases p <;> rfl
theorem writesFlags_ldPairImm (p : Pair) (nn : Word) : writesFlags (Forms.ldPairImm p nn) = false := by
  rw [writesFlags, opcodeKey_ldPairImm]
  cases p <;> rfl
theorem writesSp_ldPairImm (p : Pair) (nn : Word) : writesSp (Forms.ldPairImm p nn) = (p == .SP) := by
  rw [writesSp, opcodeKey_ldPairImm]
  cases p <;> rfl
theorem writesPc_ldPairImm (p : Pair) (nn : Word) : writesPc (Forms.ldPairImm p nn) = false := by
  rw [writesPc, opcodeKey_ldPairImm]
  cases p <;> rfl
theorem storeAddrs_ldPairImm (p : Pair) (nn : Word) (s : State) : storeAddrs (Forms.ldPairImm p nn) s = [] := by
  rw [show storeAddrs (Forms.ldPairImm p nn) s = storeAddrsOf (opcodeKey (Forms.ldPairImm p nn)) s by cases p <;> rfl, opcodeKey_ldPairImm]
  cases p <;> rfl

theorem destRegs_push (q : StackPair) : destRegs (Forms.push q) = [] := by
  cases q <;> rfl
theorem writesFlags_push (q : StackPair) : writesFlags (Forms.push q) = false := by
  cases q <;> rfl
theorem writesSp_push (q : StackPair) : writesSp (Forms.push q) = true := by
  cases q <;> rfl
theorem writesPc_push (q : StackPair) : writesPc (Forms.push q) = false := by
  cases q <;> rfl
theorem storeAddrs_push (q : StackPair) (s : State) : storeAddrs (Forms.push q) s = pushAddrs s := by
  cases q <;> rfl

theorem destRegs_pop (q : StackPair) : destRegs (Forms.pop q) = stackPairRegs q := by
  cases q <;> rfl
theorem writesFlags_pop (q : StackPair) : writesFlags (Forms.pop q) = (q == .AF) := by
  cases q <;> rfl
theorem writesSp_pop (q : StackPair) : writesSp (Forms.pop q) = true := by
  cases q <;> rfl
theorem writesPc_pop (q : StackPair) : writesPc (Forms.pop q) = false := by
  cases q <;> rfl
theorem storeAddrs_pop (q : StackPair) (s : State) : storeAddrs (Forms.pop q) s = [] := by
  cases q <;> rfl

theorem destRegs_aluReg (op : AluOp) (r : Reg8) : destRegs (Forms.aluReg op r) = if op = .cp then [] else [.A] := by
  cases op <;> cases r <;> rfl
theorem writesFlags_aluReg (op : AluOp) (r : Reg8) : writesFlags (Forms.aluReg op r) = true := by
  cases op <;> cases r <;> rfl
theorem writesSp_aluReg (op : AluOp) (r : Reg8) : writesSp (Forms.aluReg op r) = false := by
  cases op <;> cases r <;> rfl
theorem writesPc_aluReg (op : AluOp) (r : Reg8) : writesPc (Forms.aluReg op r) = false := by
  cases op <;> cases r <;> rfl
theorem storeAddrs_aluReg (op : AluOp) (r : Reg8) (s : State) : storeAddrs (Forms.aluReg op r) s = [] := by
  cases op <;> cases r <;> rfl

theorem destRegs_aluMem (op : AluOp) : destRegs (Forms.aluMem op) = if op = .cp then [] else [.A] := by
  cases op <;> rfl
theorem writesFlags_aluMem (op : AluOp) : writesFlags (Forms.aluMem op) = true := by
  cases op <;> rfl
theorem writesSp_aluMem (op : AluOp) : writesSp (Forms.aluMem op) = false := by
  cases op <;> rfl
theorem writesPc_aluMem (op : AluOp) : writesPc (Forms.aluMem op) = false := by
  cases op <;> rfl
theorem storeAddrs_aluMem (op : AluOp) (s : State) : storeAddrs (Forms.aluMem op) s = [] := by
  cases op <;> rfl

theorem opcodeKey_aluImm (op : AluOp) (n : Byte) : opcodeKey (Forms.aluImm op n) = opcodeKey (Forms.aluImm op 0) := by
  cases op <;> rfl
theorem destRegs_aluImm (op : AluOp) (n : Byte) : destRegs (Forms.aluImm op n) = if op = .cp then [] else [.A] := by
  rw [destRegs, opcodeKey_aluImm]
  cases op <;> rfl
theorem writesFlags_aluImm (op : AluOp) (n : Byte) : writesFlags (Forms.aluImm op n) = true := by
  rw [writesFlags, opcodeKey_aluImm]
  cases op <;> rfl
theorem writesSp_aluImm (op : AluOp) (n : Byte) : writesSp (Forms.aluImm op n) = false := by
  rw [writesSp, opcodeKey_aluImm]
  cases op <;> rfl
theorem writesPc_aluImm (op : AluOp) (n : Byte) : writesPc (Forms.aluImm op n) = false := by
  rw [writesPc, opcodeKey_aluImm]
  cases op <;> rfl
theorem storeAddrs_aluImm (op : AluOp) (n : Byte) (s : State) : storeAddrs (Forms.aluImm op n) s = [] := by
  rw [show storeAddrs (Forms.aluImm op n) s = storeAddrsOf (opcodeKey (Forms.aluImm op n)) s by cases op <;> rfl, opcodeKey_aluImm]
  cases op <;> rfl

theorem destRegs_incReg (r : Reg8) : destRegs (Forms.incReg r) = [r] := by
  cases r <;> rfl
theorem writesFlags_incReg (r : Reg8) : writesFlags (Forms.incReg r) = true := by
  cases r <;> rfl
theorem writesSp_incReg (r : Reg8) : writesSp (Forms.incReg r) = false := by
  cases r <;> rfl
theorem writesPc_incReg (r : Reg8) : writesPc (Forms.incReg r) = false := by
  cases r <;> rfl
theorem storeAddrs_incReg (r : Reg8) (s : State) : storeAddrs (Forms.incReg r) s = [] := by
  cases r <;> rfl

theorem destRegs_decReg (r : Reg8) : destRegs (Forms.decReg r) = [r] := by
  cases r <;> rfl
theorem writesFlags_decReg (r : Reg8) : writesFlags (Forms.decReg r) = true := by
  cases r <;> rfl
theorem writesSp_decReg (r : Reg8) : writesSp (Forms.decReg r) = false := by
  cases r <;> rfl
theorem writesPc_decReg (r : Reg8) : writesPc (Forms.decReg r) = false := by
  cases r <;> rfl
theorem storeAddrs_decReg (r : Reg8) (s : State) : storeAddrs (Forms.decReg r) s = [] := by
  cases r <;> rfl

theorem destRegs_addHlPair (p : Pair) : destRegs (Forms.addHlPair p) = [.H, .L] := by
  cases p <;> rfl
theorem writesFlags_addHlPair (p : Pair) : writesFlags (Forms.addHlPair p) = true := by
  cases p <;> rfl
theorem writesSp_addHlPair (p : Pair) : writesSp (Forms.addHlPair p) = false := by
  cases p <;> rfl
theorem writesPc_addHlPair (p : Pair) : writesPc (Forms.addHlPair p) = false := by
  cases p <;> rfl
theorem storeAddrs_addHlPair (p : Pair) (s : State) : storeAddrs (Forms.addHlPair p) s = [] := by
  cases p <;> rfl

theorem destRegs_incPair (p : Pair) : destRegs (Forms.incPair p) = pairRegs p := by
  cases p <;> rfl
theorem writesFlags_incPair (p : Pair) : writesFlags (Forms.incPair p) = false := by
  cases p <;> rfl
theorem writesSp_incPair (p : Pair) : writesSp (Forms.incPair p) = (p == .SP) := by
  cases p <;> rfl
theorem writesPc_incPair (p : Pair) : writesPc (Forms.incPair p) = false := by
  cases p <;> rfl
theorem storeAddrs_incPair (p : Pair) (s : State) : storeAddrs (Forms.incPair p) s = [] := by
  cases p <;> rfl

theorem destRegs_decPair (p : Pair) : destRegs (Forms.decPair p) = pairRegs p := by
  cases p <;> rfl
theorem writesFlags_decPair (p : Pair) : writesFlags (Forms.decPair p) = false := by
  cases p <;> rfl
theorem writesSp_decPair (p : Pair) : writesSp (Forms.decPair p) = (p == .SP) := by
  cases p <;> rfl
theorem writesPc_decPair (p : Pair) : writesPc (Forms.decPair p) = false := by
  cases p <;> rfl
theorem storeAddrs_decPair (p : Pair) (s : State) : storeAddrs (Forms.decPair p) s = [] := by
  cases p <;> rfl

theorem opcodeKey_jpCond (cc : Cond) (nn : Word) : opcodeKey (Forms.jpCond cc nn) = opcodeKey (Forms.jpCond cc 0) := by
  cases cc <;> rfl
theorem destRegs_jpCond (cc : Cond) (nn : Word) : destRegs (Forms.jpCond cc nn) = [] := by
  rw [destRegs, opcodeKey_jpCond]
  cases cc <;> rfl
theorem writesFlags_jpCond (cc : Cond) (nn : Word) : writesFlags (Forms.jpCond cc nn) = false := by
  rw [writesFlags, opcodeKey_jpCond]
  cases cc <;> rfl
theorem writesSp_jpCond (cc : Cond) (nn : Word) : writesSp (Forms.jpCond cc nn) = false := by
  rw [writesSp, opcodeKey_jpCond]
  cases cc <;> rfl
theorem writesPc_jpCond (cc : Cond) (nn : Word) : writesPc (Forms.jpCond cc nn) = true := by
  rw [writesPc, opcodeKey_jpCond]
  cases cc <;> rfl
theorem storeAddrs_jpCond (cc : Cond) (nn : Word) (s : State) : storeAddrs (Forms.jpCond cc nn) s = [] := by
  rw [show storeAddrs (Forms.jpCond cc nn) s = storeAddrsOf (opcodeKey (Forms.jpCond cc nn)) s by cases cc <;> rfl, opcodeKey_jpCond]
  cases cc <;> rfl

theorem opcodeKey_jrCond (cc : Cond) (e : Byte) : opcodeKey (Forms.jrCond cc e) = opcodeKey (Forms.jrCond cc 0) := by
  cases cc <;> rfl
theorem destRegs_jrCond (cc : Cond) (e : Byte) : destRegs (Forms.jrCond cc e) = [] := by
  rw [destRegs, opcodeKey_jrCond]
  cases cc <;> rfl
theorem writesFlags_jrCond (cc : Cond) (e : Byte) : writesFlags (Forms.jrCond cc e) = false := by
  rw [writesFlags, opcodeKey_jrCond]
  cases cc <;> rfl
theorem writesSp_jrCond (cc : Cond) (e : Byte) : writesSp (Forms.jrCond cc e) = false := by
  rw [writesSp, opcodeKey_jrCond]
  cases cc <;> rfl
theorem writesPc_jrCond (cc : Cond) (e : Byte) : writesPc (Forms.jrCond cc e) = true := by
  rw [writesPc, opcodeKey_jrCond]
  cases cc <;> rfl
theorem storeAddrs_jrCond (cc : Cond) (e : Byte) (s : State) : storeAddrs (Forms.jrCond cc e) s = [] := by
  rw [show storeAddrs (Forms.jrCond cc e) s = storeAddrsOf (opcodeKey (Forms.jrCond cc e)) s by cases cc <;> rfl, opcodeKey_jrCond]
  cases cc <;> rfl

theorem opcodeKey_callCond (cc : Cond) (nn : Word) : opcodeKey (Forms.callCond cc nn) = opcodeKey (Forms.callCond cc 0) := by
  cases cc <;> rfl
theorem destRegs_callCond (cc : Cond) (nn : Word) : destRegs (Forms.callCond cc nn) = [] := by
  rw [destRegs, opcodeKey_callCond]
  cases cc <;> rfl
theorem writesFlags_callCond (cc : Cond) (nn : Word) : writesFlags (Forms.callCond cc nn) = false := by
  rw [writesFlags, opcodeKey_callCond]
  cases cc <;> rfl
theorem writesSp_callCond (cc : Cond) (nn : Word) : writesSp (Forms.callCond cc nn) = true := by
  rw [writesSp, opcodeKey_callCond]
  cases cc <;> rfl
theorem writesPc_callCond (cc : Cond) (nn : Word) : writesPc (Forms.callCond cc nn) = true := by
  rw [writesPc, opcodeKey_callCond]
  cases cc <;> rfl
theorem storeAddrs_callCond (cc : Cond) (nn : Word) (s : State) : storeAddrs (Forms.callCond cc nn) s = if s.cond cc then pushAddrs s else [] := by
  cases cc <;> rfl

theorem destRegs_retCond (cc : Cond) : destRegs (Forms.retCond cc) = [] := by
  cases cc <;> rfl
theorem writesFlags_retCond (cc : Cond) : writesFlags (Forms.retCond cc) = false := by
  cases cc <;> rfl
theorem writesSp_retCond (cc : Cond) : writesSp (Forms.retCond cc) = true := by
  cases cc <;> rfl
theorem writesPc_retCond (cc : Cond) : writesPc (Forms.retCond cc) = true := by
  cases cc <;> rfl
theorem storeAddrs_retCond (cc : Cond) (s : State) : storeAddrs (Forms.retCond cc) s = [] := by
  cases cc <;> rfl

theorem destRegs_rst (y : Oct) : destRegs (Forms.rst y) = [] := by
  cases y <;> rfl
theorem writesFlags_rst (y : Oct) : writesFlags (Forms.rst y) = false := by
  cases y <;> rfl
theorem writesSp_rst (y : Oct) : writesSp (Forms.rst y) = true := by
  cases y <;> rfl
theorem writesPc_rst (y : Oct) : writesPc (Forms.rst y) = true := by
  cases y <;> rfl
theorem storeAddrs_rst (y : Oct) (s : State) : storeAddrs (Forms.rst y) s = pushAddrs s := by
  cases y <;> rfl

theorem destRegs_rotReg (op : RotOp) (r : Reg8) : destRegs (Forms.rotReg op r) = [r] := by
  cases op <;> cases r <;> rfl
theorem writesFlags_rotReg (op : RotOp) (r : Reg8) : writesFlags (Forms.rotReg op r) = true := by
  cases op <;> cases r <;> rfl
theorem writesSp_rotReg (op : RotOp) (r : Reg8) : writesSp (Forms.rotReg op r) = false := by
  cases op <;> cases r <;> rfl
theorem writesPc_rotReg (op : RotOp) (r : Reg8) : writesPc (Forms.rotReg op r) = false := by
  cases op <;> cases r <;> rfl
theorem storeAddrs_rotReg (op : RotOp) (r : Reg8) (s : State) : storeAddrs (Forms.rotReg op r) s = [] := by
  cases op <;> cases r <;> rfl

theorem destRegs_rotMem (op : RotOp) : destRegs (Forms.rotMem op) = [] := by
  cases op <;> rfl
theorem writesFlags_rotMem (op : RotOp) : writesFlags (Forms.rotMem op) = true := by
  cases op <;> rfl
theorem writesSp_rotMem (op : RotOp) : writesSp (Forms.rotMem op) = false := by
  cases op <;> rfl
theorem writesPc_rotMem (op : RotOp) : writesPc (Forms.rotMem op) = false := by
  cases op <;> rfl
theorem storeAddrs_rotMem (op : RotOp) (s : State) : storeAddrs (Forms.rotMem op) s = [s.hl] := by
  cases op <;> rfl

theorem destRegs_bitReg (b : Oct) (r : Reg8) : destRegs (Forms.bitReg b r) = [] := by
  cases b <;> cases r <;> rfl
theorem writesFlags_bitReg (b : Oct) (r : Reg8) : writesFlags (Forms.bitReg b r) = true := by
  cases b <;> cases r <;> rfl
theorem writesSp_bitReg (b : Oct) (r : Reg8) : writesSp (Forms.bitReg b r) = false := by
  cases b <;> cases r <;> rfl
theorem writesPc_bitReg (b : Oct) (r : Reg8) : writesPc (Forms.bitReg b r) = false := by
  cases b <;> cases r <;> rfl
theorem storeAddrs_bitReg (b : Oct) (r : Reg8) (s : State) : storeAddrs (Forms.bitReg b r) s = [] := by
  cases b <;> cases r <;> rfl

theorem destRegs_bitMem (b : Oct) : destRegs (Forms.bitMem b) = [] := by
  cases b <;> rfl
theorem writesFlags_bitMem (b : Oct) : writesFlags (Forms.bitMem b) = true := by
  cases b <;> rfl
theorem writesSp_bitMem (b : Oct) : writesSp (Forms.bitMem b) = false := by
  cases b <;> rfl
theorem writesPc_bitMem (b : Oct) : writesPc (Forms.bitMem b) = false := by
  cases b <;> rfl
theorem storeAddrs_bitMem (b : Oct) (s : State) : storeAddrs (Forms.bitMem b) s = [] := by
  cases b <;> rfl

theorem destRegs_resReg (b : Oct) (r : Reg8) : destRegs (Forms.resReg b r) = [r] := by
  cases b <;> cases r <;> rfl
theorem writesFlags_resReg (b : Oct) (r : Reg8) : writesFlags (Forms.resReg b r) = false := by
  cases b <;> cases r <;> rfl
theorem writesSp_resReg (b : Oct) (r : Reg8) : writesSp (Forms.resReg b r) = false := by
  cases b <;> cases r <;> rfl
theorem writesPc_resReg (b : Oct) (r : Reg8) : writesPc (Forms.resReg b r) = false := by
  cases b <;> cases r <;> rfl
theorem storeAddrs_resReg (b : Oct) (r : Reg8) (s : State) : storeAddrs (Forms.resReg b r) s = [] := by
  cases b <;> cases r <;> rfl

theorem destRegs_resMem (b : Oct) : destRegs (Forms.resMem b) = [] := by
  cases b <;> rfl
theorem writesFlags_resMem (b : Oct) : writesFlags (Forms.resMem b) = false := by
  cases b <;> rfl
theorem writesSp_resMem (b : Oct) : writesSp (Forms.resMem b) = false := by
  cases b <;> rfl
theorem writesPc_resMem (b : Oct) : writesPc (Forms.resMem b) = false := by
  cases b <;> rfl
theorem storeAddrs_resMem (b : Oct) (s : State) : storeAddrs (Forms.resMem b) s = [s.hl] := by
  cases b <;> rfl

theorem destRegs_setReg (b : Oct) (r : Reg8) : destRegs (Forms.setReg b r) = [r] := by
  cases b <;> cases r <;> rfl
theorem writesFlags_setReg (b : Oct) (r : Reg8) : writesFlags (Forms.setReg b r) = false := by
  cases b <;> cases r <;> rfl
theorem writesSp_setReg (b : Oct) (r : Reg8) : writesSp (Forms.setReg b r) = false := by
  cases b <;> cases r <;> rfl
theorem writesPc_setReg (b : Oct) (r : Reg8) : writesPc (Forms.setReg b r) = false := by
  cases b <;> cases r <;> rfl
theorem storeAddrs_setReg (b : Oct) (r : Reg8) (s : State) : storeAddrs (Forms.setReg b r) s = [] := by
  cases b <;> cases r <;> rfl

theorem destRegs_setMem (b : Oct) : destRegs (Forms.setMem b) = [] := by
  cases b <;> rfl
theorem writesFlags_setMem (b : Oct) : writesFlags (Forms.setMem b) = false := by
  cases b <;> rfl
theorem writesSp_setMem (b : Oct) : writesSp (Forms.setMem b) = false := by
  cases b <;> rfl
theorem writesPc_setMem (b : Oct) : writesPc (Forms.setMem b) = false := by
  cases b <;> rfl
theorem storeAddrs_setMem (b : Oct) (s : State) : storeAddrs (Forms.setMem b) s = [s.hl] := by
  cases b <;> rfl

end Machine

end Sys2Proof
end

