-- ==== Sys2Proof/Laws/Exec.lean ====
section
/-! SUPPORT. What an instruction can do, said once: it answers a next state, by register, flag, SP, PC, latch and
memory writes that its opcode allows, or by raising a fault. A property closed under those updates is kept by
`exec`. -/

namespace Sys2Proof.Machine

/-- `P` is closed under every update that `i`, started in `s0`, may make. -/
structure Keeps (i : Instr) (s0 : State) (P : State → Prop) : Prop where
  reg : ∀ s r v, r ∈ destRegs i → P s → P (s.setReg r v)
  flags : ∀ s z n h c, writesFlags i = true → P s → P (s.setFlags z n h c)
  popF : ∀ (s : State) (b : Byte), writesFlags i = true → P s → P { s with f := b &&& 0xF0 }
  sp : ∀ (s : State) (v : Word), writesSp i = true → P s → P { s with sp := v }
  pc : ∀ (s : State) (v : Word), writesPc i = true → P s → P { s with pc := v }
  store : ∀ s a v, a ∈ storeAddrs i s0 → P s → P (s.memWrite a v)
  raise : ∀ s r, P s → P (s.raise r)
  ime : ∀ (s : State) (b : Bool), writesIme i = true → P s → P { s with ime := b }
  ei : ∀ (s : State) (k : Nat), writesIme i = true → (k = 0 ∨ (k = 2 ∧ s.params.eiDelay ≠ 0)) → P s →
    P { s with eiCountdown := k }
  halt : ∀ s : State, i = .halt → P s → P { s with halted := true }
  stop : ∀ s : State, (∃ n, i = .stop n) → P s → P { s with stopped := true }

variable {P : State → Prop} {s t : State}

/-- Two registers written. -/
theorem keeps_two (hreg : ∀ s r v, P s → P (State.setReg s r v)) (h0 : P s) (r q : Reg8) (v w : Byte) :
    P ((s.setReg r v).setReg q w) := hreg _ q w (hreg _ r v h0)

theorem keeps_setPair {i : Instr} {s0 : State} (hk : Keeps i s0 P) (h0 : P s) (p : Pair) (w : Word)
    (hd : ∀ r ∈ pairRegs p, r ∈ destRegs i) (hs : p = .SP → writesSp i = true) : P (s.setPair p w) := by
  cases p
  · exact hk.reg _ .C _ (hd _ (by simp [pairRegs])) (hk.reg s .B (hiByte w) (hd _ (by simp [pairRegs])) h0)
  · exact hk.reg _ .E _ (hd _ (by simp [pairRegs])) (hk.reg s .D (hiByte w) (hd _ (by simp [pairRegs])) h0)
  · exact hk.reg _ .L _ (hd _ (by simp [pairRegs])) (hk.reg s .H (hiByte w) (hd _ (by simp [pairRegs])) h0)
  · exact hk.sp s w (hs rfl) h0

theorem keeps_setHl {i : Instr} {s0 : State} (hk : Keeps i s0 P) (h0 : P s) (w : Word)
    (hh : .H ∈ destRegs i) (hl : .L ∈ destRegs i) : P (s.setHl w) :=
  hk.reg _ .L (loByte w) hl (hk.reg s .H (hiByte w) hh h0)

theorem keeps_push {i : Instr} {s0 : State} (hk : Keeps i s0 P) (h0 : P s0) (w : Word)
    (hs : writesSp i = true) (ha : pushAddrs s0 = storeAddrs i s0) : P (s0.push16 w) := by
  rw [State.push16_writes]
  refine hk.sp _ _ hs (hk.store _ _ _ ?_ (hk.store _ _ _ ?_ h0)) <;> rw [← ha] <;> simp [pushAddrs]

theorem keeps_withRead {i : Instr} {s0 : State} (hk : Keeps i s0 P) (h0 : P s) {a : Word} {k : Byte → Result}
    (hv : ∀ v, k v = .next t → P t) (h : withRead s a k = .next t) : P t := by
  rcases withRead_next h with ⟨v, _, h⟩ | ⟨r, _, rfl⟩
  · exact hv v h
  · exact hk.raise _ _ h0

theorem keeps_withPop {i : Instr} {s0 : State} (hk : Keeps i s0 P) (h0 : P s) (hs : writesSp i = true)
    {k : Word → State → Result} (hw : ∀ w u, P u → k w u = .next t → P t) (h : withPop s k = .next t) : P t := by
  rcases withPop_next h with ⟨w, h⟩ | ⟨r, _, rfl⟩ | ⟨r, _, rfl⟩
  · exact hw w _ (hk.sp _ _ hs h0) h
  · exact hk.raise _ _ h0
  · exact hk.raise _ r (hk.sp _ (s.sp + 1) hs h0)

theorem keeps_applyAlu {i : Instr} {s0 : State} (hk : Keeps i s0 P) (h0 : P s) (op : AluOp) (v : Byte)
    (hf : writesFlags i = true) (hd : destRegs i = if op = .cp then [] else [.A]) : P (s.applyAlu op v) := by
  have h1 := hk.flags s (aluOut op s.a v s.flagC).z (aluOut op s.a v s.flagC).n (aluOut op s.a v s.flagC).h
    (aluOut op s.a v s.flagC).c hf h0
  cases op
  case cp => exact h1
  all_goals exact hk.reg _ .A _ (by rw [hd]; simp) h1

theorem keeps_callTo {i : Instr} {s0 : State} (hk : Keeps i s0 P) (h0 : P s0) (target : Word)
    (hs : writesSp i = true) (hp : writesPc i = true) (ha : pushAddrs s0 = storeAddrs i s0)
    (h : callTo target s0 = .next t) : P t := by
  cases h
  exact hk.pc _ _ hp (keeps_push hk h0 _ hs ha)

/-- A property that every update of `i` keeps is kept by `exec i`. -/
theorem exec_keeps {i : Instr} {s t : State} {P : State → Prop} (hk : Keeps i s P) (h0 : P s)
    (h : exec i s = .next t) : P t := by
  cases view i with
  | ldRegReg d r =>
    rw [exec_ldRegReg] at h; cases h
    exact hk.reg _ _ _ (by simp [destRegs_ldRegReg]) h0
  | ldRegImm d n =>
    rw [exec_ldRegImm] at h; cases h
    exact hk.reg _ _ _ (by simp [destRegs_ldRegImm]) h0
  | ldRegMem d =>
    rw [exec_ldRegMem] at h
    refine keeps_withRead hk h0 (fun v h => ?_) h
    cases h; exact hk.reg _ _ _ (by simp [destRegs_ldRegMem]) h0
  | ldMemReg r =>
    rw [exec_ldMemReg] at h; cases h
    exact hk.store _ _ _ (by simp [storeAddrs_ldMemReg]) h0
  | ldPairImm p nn =>
    rw [exec_ldPairImm] at h; cases h
    exact keeps_setPair hk h0 p nn (by simp [destRegs_ldPairImm]) (by rintro rfl; simp [writesSp_ldPairImm])
  | push q =>
    rw [exec_push] at h; cases h
    exact keeps_push hk h0 _ (writesSp_push q) (storeAddrs_push q s).symm
  | pop q =>
    rw [exec_pop] at h
    refine keeps_withPop hk h0 (writesSp_pop q) (fun w u hu h => ?_) h
    cases h
    have hd := destRegs_pop q
    cases q
    · exact hk.reg _ .C _ (by simp [hd, stackPairRegs]) (hk.reg u .B (hiByte w) (by simp [hd, stackPairRegs]) hu)
    · exact hk.reg _ .E _ (by simp [hd, stackPairRegs]) (hk.reg u .D (hiByte w) (by simp [hd, stackPairRegs]) hu)
    · exact hk.reg _ .L _ (by simp [hd, stackPairRegs]) (hk.reg u .H (hiByte w) (by simp [hd, stackPairRegs]) hu)
    · exact hk.popF _ (loByte w) (writesFlags_pop .AF) (hk.reg u .A (hiByte w) (by simp [hd, stackPairRegs]) hu)
  | aluReg op r =>
    rw [exec_aluReg] at h; cases h
    exact keeps_applyAlu hk h0 op _ (writesFlags_aluReg op r) (destRegs_aluReg op r)
  | aluMem op =>
    rw [exec_aluMem] at h
    refine keeps_withRead hk h0 (fun v h => ?_) h
    cases h; exact keeps_applyAlu hk h0 op v (writesFlags_aluMem op) (destRegs_aluMem op)
  | aluImm op n =>
    rw [exec_aluImm] at h; cases h
    exact keeps_applyAlu hk h0 op _ (writesFlags_aluImm op n) (destRegs_aluImm op n)
  | incReg r =>
    rw [exec_incReg] at h; cases h
    exact hk.flags _ _ _ _ _ (writesFlags_incReg r) (hk.reg _ _ _ (by simp [destRegs_incReg]) h0)
  | decReg r =>
    rw [exec_decReg] at h; cases h
    exact hk.flags _ _ _ _ _ (writesFlags_decReg r) (hk.reg _ _ _ (by simp [destRegs_decReg]) h0)
  | addHlPair p =>
    rw [exec_addHlPair] at h; cases h
    exact keeps_setHl hk (hk.flags _ _ _ _ _ (writesFlags_addHlPair p) h0) _ (by simp [destRegs_addHlPair])
      (by simp [destRegs_addHlPair])
  | incPair p =>
    rw [exec_incPair] at h; cases h
    exact keeps_setPair hk h0 p _ (by simp [destRegs_incPair]) (by rintro rfl; simp [writesSp_incPair])
  | decPair p =>
    rw [exec_decPair] at h; cases h
    exact keeps_setPair hk h0 p _ (by simp [destRegs_decPair]) (by rintro rfl; simp [writesSp_decPair])
  | jpCond cc nn =>
    rw [exec_jpCond] at h; unfold jumpIf at h; split at h <;> cases h
    · exact hk.pc _ _ (writesPc_jpCond cc nn) h0
    · exact h0
  | jrCond cc e =>
    rw [exec_jrCond] at h; unfold jumpIf at h; split at h <;> cases h
    · exact hk.pc _ _ (writesPc_jrCond cc e) h0
    · exact h0
  | callCond cc nn =>
    rw [exec_callCond] at h; unfold callIf at h; split at h
    · rename_i hc
      exact keeps_callTo hk h0 nn (writesSp_callCond cc nn) (writesPc_callCond cc nn)
        (by rw [storeAddrs_callCond, if_pos hc]) h
    · cases h; exact h0
  | retCond cc =>
    rw [exec_retCond] at h; unfold returnIf at h; split at h
    · refine keeps_withPop hk h0 (writesSp_retCond cc) (fun w u hu h => ?_) h
      cases h; exact hk.pc _ _ (writesPc_retCond cc) hu
    · cases h; exact h0
  | rst y =>
    rw [exec_rst] at h
    exact keeps_callTo hk h0 _ (writesSp_rst y) (writesPc_rst y) (storeAddrs_rst y s).symm h
  | rotReg op r =>
    rw [exec_rotReg] at h; cases h
    exact hk.flags _ _ _ _ _ (writesFlags_rotReg op r) (hk.reg _ _ _ (by simp [destRegs_rotReg]) h0)
  | rotMem op =>
    rw [exec_rotMem] at h
    refine keeps_withRead hk h0 (fun v h => ?_) h
    cases h
    exact hk.flags _ _ _ _ _ (writesFlags_rotMem op) (hk.store _ _ _ (by simp [storeAddrs_rotMem]) h0)
  | bitReg b r =>
    rw [exec_bitReg] at h; cases h
    exact hk.flags _ _ _ _ _ (writesFlags_bitReg b r) h0
  | bitMem b =>
    rw [exec_bitMem] at h
    refine keeps_withRead hk h0 (fun v h => ?_) h
    cases h; exact hk.flags _ _ _ _ _ (writesFlags_bitMem b) h0
  | resReg b r =>
    rw [exec_resReg] at h; cases h
    exact hk.reg _ _ _ (by simp [destRegs_resReg]) h0
  | resMem b =>
    rw [exec_resMem] at h
    refine keeps_withRead hk h0 (fun v h => ?_) h
    cases h; exact hk.store _ _ _ (by simp [storeAddrs_resMem]) h0
  | setReg b r =>
    rw [exec_setReg] at h; cases h
    exact hk.reg _ _ _ (by simp [destRegs_setReg]) h0
  | setMem b =>
    rw [exec_setMem] at h
    refine keeps_withRead hk h0 (fun v h => ?_) h
    cases h; exact hk.store _ _ _ (by simp [storeAddrs_setMem]) h0
  | nop => cases h; exact h0
  | ld_mBC_A => cases h; exact hk.store s _ _ (.head _) h0
  | ld_mDE_A => cases h; exact hk.store s _ _ (.head _) h0
  | ld_mnn_A nn => cases h; exact hk.store s _ _ (.head _) h0
  | ldh_mn_A n => cases h; exact hk.store s _ _ (.head _) h0
  | ldh_mC_A => cases h; exact hk.store s _ _ (.head _) h0
  | ld_mHL_n n =>
    have hs : storeAddrs (.ld_mHL_n n) s = [s.hl] := by
      rw [show storeAddrs (.ld_mHL_n n) s = storeAddrsOf (opcodeKey (.ld_mHL_n n)) s from rfl,
        show opcodeKey (.ld_mHL_n n) = 0x36 from rfl]; rfl
    cases h; exact hk.store _ _ _ (by rw [hs]; simp) h0
  | ld_mnn_SP nn =>
    cases h
    exact hk.store _ _ _ (.tail _ (.head _)) (hk.store s nn _ (.head _) h0)
  | ld_A_mBC => exact keeps_withRead hk h0 (fun v h => by cases h; exact hk.reg _ .A v (by decide) h0) h
  | ld_A_mDE => exact keeps_withRead hk h0 (fun v h => by cases h; exact hk.reg _ .A v (by decide) h0) h
  | ldh_A_mC => exact keeps_withRead hk h0 (fun v h => by cases h; exact hk.reg _ .A v (by decide) h0) h
  | ldh_A_mn n =>
    have hd : destRegs (.ldh_A_mn n) = [.A] := by
      rw [destRegs, show opcodeKey (.ldh_A_mn n) = 0xF0 from rfl]; rfl
    exact keeps_withRead hk h0 (fun v h => by cases h; exact hk.reg _ .A v (by rw [hd]; simp) h0) h
  | ld_A_mnn nn =>
    have hd : destRegs (.ld_A_mnn nn) = [.A] := by
      rw [destRegs, show opcodeKey (.ld_A_mnn nn) = 0xFA from rfl]; rfl
    exact keeps_withRead hk h0 (fun v h => by cases h; exact hk.reg _ .A v (by rw [hd]; simp) h0) h
  | ld_A_mHLinc =>
    refine keeps_withRead hk h0 (fun v h => ?_) h
    cases h; exact keeps_setHl hk (hk.reg _ .A v (by decide) h0) _ (by decide) (by decide)
  | ld_A_mHLdec =>
    refine keeps_withRead hk h0 (fun v h => ?_) h
    cases h; exact keeps_setHl hk (hk.reg _ .A v (by decide) h0) _ (by decide) (by decide)
  | ld_mHLinc_A =>
    cases h
    exact keeps_setHl hk (hk.store s s.hl s.a (List.mem_singleton.2 rfl) h0) _ (by decide) (by decide)
  | ld_mHLdec_A =>
    cases h
    exact keeps_setHl hk (hk.store s s.hl s.a (List.mem_singleton.2 rfl) h0) _ (by decide) (by decide)
  | inc_mHL =>
    refine keeps_withRead hk h0 (fun v h => ?_) h
    cases h; exact hk.flags _ _ _ _ _ rfl (hk.store s s.hl _ (List.mem_singleton.2 rfl) h0)
  | dec_mHL =>
    refine keeps_withRead hk h0 (fun v h => ?_) h
    cases h; exact hk.flags _ _ _ _ _ rfl (hk.store s s.hl _ (List.mem_singleton.2 rfl) h0)
  | rlca => cases h; exact hk.flags _ _ _ _ _ rfl (hk.reg _ .A _ (by decide) h0)
  | rrca => cases h; exact hk.flags _ _ _ _ _ rfl (hk.reg _ .A _ (by decide) h0)
  | rla => cases h; exact hk.flags _ _ _ _ _ rfl (hk.reg _ .A _ (by decide) h0)
  | rra => cases h; exact hk.flags _ _ _ _ _ rfl (hk.reg _ .A _ (by decide) h0)
  | daa => cases h; exact hk.flags _ _ _ _ _ rfl (hk.reg _ .A _ (by decide) h0)
  | cpl => cases h; exact hk.flags _ _ _ _ _ rfl (hk.reg _ .A _ (by decide) h0)
  | scf => cases h; exact hk.flags _ _ _ _ _ rfl h0
  | ccf => cases h; exact hk.flags _ _ _ _ _ rfl h0
  | halt => cases h; exact hk.halt _ rfl h0
  | stop n => cases h; exact hk.stop _ ⟨n, rfl⟩ h0
  | jr_e e =>
    have hp : writesPc (.jr_e e) = true := by
      rw [writesPc, show opcodeKey (.jr_e e) = 0x18 from rfl]; rfl
    cases h; exact hk.pc _ _ hp h0
  | jp_nn nn =>
    have hp : writesPc (.jp_nn nn) = true := by
      rw [writesPc, show opcodeKey (.jp_nn nn) = 0xC3 from rfl]; rfl
    cases h; exact hk.pc _ _ hp h0
  | jp_HL => cases h; exact hk.pc _ _ rfl h0
  | ret =>
    have h : returnTo s = .next t := h
    unfold returnTo at h
    refine keeps_withPop hk h0 rfl (fun w u hu h => ?_) h
    cases h; exact hk.pc _ _ rfl hu
  | reti =>
    have h : returnFromInterrupt s = .next t := h
    unfold returnFromInterrupt at h
    refine keeps_withPop hk h0 rfl (fun w u hu h => ?_) h
    cases h
    exact hk.ei _ 0 rfl (.inl rfl) (hk.ime _ true rfl (hk.pc _ w rfl hu))
  | call_nn nn =>
    have hp : writesPc (.call_nn nn) = true := by
      rw [writesPc, show opcodeKey (.call_nn nn) = 0xCD from rfl]; rfl
    have hs : writesSp (.call_nn nn) = true := by
      rw [writesSp, show opcodeKey (.call_nn nn) = 0xCD from rfl]; rfl
    exact keeps_callTo hk h0 nn hs hp rfl h
  | illegal op => cases h; exact hk.raise _ _ h0
  | add_SP_e e =>
    have hs : writesSp (.add_SP_e e) = true := by
      rw [writesSp, show opcodeKey (.add_SP_e e) = 0xE8 from rfl]; rfl
    have hf : writesFlags (.add_SP_e e) = true := by
      rw [writesFlags, show opcodeKey (.add_SP_e e) = 0xE8 from rfl]; rfl
    cases h; exact hk.sp _ _ hs (hk.flags _ _ _ _ _ hf h0)
  | ld_HL_SPe e =>
    have hd : destRegs (.ld_HL_SPe e) = [.H, .L] := by
      rw [destRegs, show opcodeKey (.ld_HL_SPe e) = 0xF8 from rfl]; rfl
    have hf : writesFlags (.ld_HL_SPe e) = true := by
      rw [writesFlags, show opcodeKey (.ld_HL_SPe e) = 0xF8 from rfl]; rfl
    cases h
    exact keeps_setHl hk (hk.flags _ _ _ _ _ hf h0) _ (by rw [hd]; simp) (by rw [hd]; simp)
  | ld_SP_HL => cases h; exact hk.sp _ _ rfl h0
  | di => cases h; exact hk.ei _ 0 rfl (.inl rfl) (hk.ime _ false rfl h0)
  | ei =>
    change execEi s = .next t at h
    unfold execEi at h
    split at h
    · cases h; exact hk.ime _ true rfl h0
    · rename_i hd
      split at h
      · cases h; exact hk.ei _ 2 rfl (.inr ⟨rfl, hd⟩) h0
      · cases h; exact h0

/-- Every instruction answers a next state. -/
theorem exec_answers (i : Instr) (s : State) : ∃ t, exec i s = .next t := by
  have hr : ∀ (u : State) a (k : Byte → Result), (∀ v, ∃ t, k v = .next t) → ∃ t, withRead u a k = .next t := by
    intro u a k hv
    cases h : u.memRead a with
    | ok v => rw [withRead_ok h]; exact hv v
    | error r => rw [withRead_error h]; exact ⟨_, rfl⟩
  have hp : ∀ (u : State) (k : Word → State → Result), (∀ w v, ∃ t, k w v = .next t) → ∃ t, withPop u k = .next t := by
    intro u k hw
    exact hr _ _ _ fun lo => hr _ _ _ fun hi => hw _ _
  cases view i with
  | ldRegReg d r => rw [exec_ldRegReg]; exact ⟨_, rfl⟩
  | ldRegImm d n => rw [exec_ldRegImm]; exact ⟨_, rfl⟩
  | ldRegMem d => rw [exec_ldRegMem]; exact hr _ _ _ fun v => ⟨_, rfl⟩
  | ldMemReg r => rw [exec_ldMemReg]; exact ⟨_, rfl⟩
  | ldPairImm p nn => rw [exec_ldPairImm]; exact ⟨_, rfl⟩
  | push q => rw [exec_push]; exact ⟨_, rfl⟩
  | pop q => rw [exec_pop]; exact hp _ _ fun w v => ⟨_, rfl⟩
  | aluReg op r => rw [exec_aluReg]; exact ⟨_, rfl⟩
  | aluMem op => rw [exec_aluMem]; exact hr _ _ _ fun v => ⟨_, rfl⟩
  | aluImm op n => rw [exec_aluImm]; exact ⟨_, rfl⟩
  | incReg r => rw [exec_incReg]; exact ⟨_, rfl⟩
  | decReg r => rw [exec_decReg]; exact ⟨_, rfl⟩
  | addHlPair p => rw [exec_addHlPair]; exact ⟨_, rfl⟩
  | incPair p => rw [exec_incPair]; exact ⟨_, rfl⟩
  | decPair p => rw [exec_decPair]; exact ⟨_, rfl⟩
  | jpCond cc nn => rw [exec_jpCond]; unfold jumpIf; split <;> exact ⟨_, rfl⟩
  | jrCond cc e => rw [exec_jrCond]; unfold jumpIf; split <;> exact ⟨_, rfl⟩
  | callCond cc nn => rw [exec_callCond]; unfold callIf; split <;> exact ⟨_, rfl⟩
  | retCond cc =>
    rw [exec_retCond]; unfold returnIf; split
    · exact hp _ _ fun w v => ⟨_, rfl⟩
    · exact ⟨_, rfl⟩
  | rst y => rw [exec_rst]; exact ⟨_, rfl⟩
  | rotReg op r => rw [exec_rotReg]; exact ⟨_, rfl⟩
  | rotMem op => rw [exec_rotMem]; exact hr _ _ _ fun v => ⟨_, rfl⟩
  | bitReg b r => rw [exec_bitReg]; exact ⟨_, rfl⟩
  | bitMem b => rw [exec_bitMem]; exact hr _ _ _ fun v => ⟨_, rfl⟩
  | resReg b r => rw [exec_resReg]; exact ⟨_, rfl⟩
  | resMem b => rw [exec_resMem]; exact hr _ _ _ fun v => ⟨_, rfl⟩
  | setReg b r => rw [exec_setReg]; exact ⟨_, rfl⟩
  | setMem b => rw [exec_setMem]; exact hr _ _ _ fun v => ⟨_, rfl⟩
  | ld_A_mBC => exact hr _ _ _ fun v => ⟨_, rfl⟩
  | ld_A_mDE => exact hr _ _ _ fun v => ⟨_, rfl⟩
  | ldh_A_mC => exact hr _ _ _ fun v => ⟨_, rfl⟩
  | ldh_A_mn n => exact hr _ _ _ fun v => ⟨_, rfl⟩
  | ld_A_mnn nn => exact hr _ _ _ fun v => ⟨_, rfl⟩
  | ld_A_mHLinc => exact hr _ _ _ fun v => ⟨_, rfl⟩
  | ld_A_mHLdec => exact hr _ _ _ fun v => ⟨_, rfl⟩
  | inc_mHL => exact hr _ _ _ fun v => ⟨_, rfl⟩
  | dec_mHL => exact hr _ _ _ fun v => ⟨_, rfl⟩
  | ret => change ∃ t, returnTo s = .next t; exact hp _ _ fun w v => ⟨_, rfl⟩
  | reti => change ∃ t, returnFromInterrupt s = .next t; exact hp _ _ fun w v => ⟨_, rfl⟩
  | ei =>
    change ∃ t, execEi s = .next t
    unfold execEi; split
    · exact ⟨_, rfl⟩
    · split <;> exact ⟨_, rfl⟩
  | _ => exact ⟨_, rfl⟩

/-- A form that reads one byte and then only updates fields other than `fault` raises exactly its read's fault. -/
theorem withRead_fault {s t : State} {a : Word} {k : Byte → Result} {r : Fault} (h : withRead s a k = .next t)
    (hr : t.fault = some r) (hk : ∀ v u, k v = .next u → u.fault = none) : t = { s with fault := some r } := by
  rcases withRead_next h with ⟨v, _, h⟩ | ⟨q, _, rfl⟩
  · rw [hk v t h] at hr; cases hr
  · cases hr; rfl

/-- The same for a form that pops: SP has moved by one when the second read faulted. -/
theorem withPop_fault {s t : State} {k : Word → State → Result} {r : Fault} (h : withPop s k = .next t)
    (hr : t.fault = some r) (h0 : s.fault = none) (hk : ∀ w u v, k w u = .next v → v.fault = u.fault) :
    t = { s with fault := some r } ∨
      (t = { s with sp := s.sp + 1, fault := some r } ∧ s.memRead (s.sp + 1) = .error r) := by
  rcases withPop_next h with ⟨w, h⟩ | ⟨q, _, rfl⟩ | ⟨q, hq, rfl⟩
  · rw [hk w _ t h] at hr; simp [h0] at hr
  · cases hr; exact .inl rfl
  · cases hr; exact .inr ⟨rfl, hq⟩

/-- When an instruction raises a fault, the fault is all it has written, but for SP after the second read of a pop
(R273). -/
theorem exec_fault {i : Instr} {s t : State} {r : Fault} (h : exec i s = .next t) (h0 : s.fault = none)
    (hr : t.fault = some r) :
    t = { s with fault := some r } ∨
      (t = { s with sp := s.sp + 1, fault := some r } ∧ s.memRead (s.sp + 1) = .error r) := by
  have alu : ∀ op v, (s.applyAlu op v).fault = none := by
    intro op v; cases op <;> simp [State.applyAlu, h0]
  cases view i with
  | ldRegReg d q => rw [exec_ldRegReg] at h; cases h; simp [h0] at hr
  | ldRegImm d n => rw [exec_ldRegImm] at h; cases h; simp [h0] at hr
  | ldRegMem d =>
    rw [exec_ldRegMem] at h
    exact .inl (withRead_fault h hr fun v u hu => by cases hu; simp [h0])
  | ldMemReg q => rw [exec_ldMemReg] at h; cases h; simp [h0] at hr
  | ldPairImm p nn => rw [exec_ldPairImm] at h; cases h; simp [h0] at hr
  | push q => rw [exec_push] at h; cases h; simp [h0] at hr
  | pop q =>
    rw [exec_pop] at h
    exact withPop_fault h hr h0 fun w u v hv => by cases hv; simp
  | aluReg op q => rw [exec_aluReg] at h; cases h; rw [alu] at hr; cases hr
  | aluMem op =>
    rw [exec_aluMem] at h
    exact .inl (withRead_fault h hr fun v u hu => by cases hu; exact alu op v)
  | aluImm op n => rw [exec_aluImm] at h; cases h; rw [alu] at hr; cases hr
  | incReg q => rw [exec_incReg] at h; cases h; simp [State.setOutFlags, h0] at hr
  | decReg q => rw [exec_decReg] at h; cases h; simp [State.setOutFlags, h0] at hr
  | addHlPair p => rw [exec_addHlPair] at h; cases h; simp [h0] at hr
  | incPair p => rw [exec_incPair] at h; cases h; simp [h0] at hr
  | decPair p => rw [exec_decPair] at h; cases h; simp [h0] at hr
  | jpCond cc nn => rw [exec_jpCond] at h; unfold jumpIf at h; split at h <;> cases h <;> simp [h0] at hr
  | jrCond cc e => rw [exec_jrCond] at h; unfold jumpIf at h; split at h <;> cases h <;> simp [h0] at hr
  | callCond cc nn => rw [exec_callCond] at h; unfold callIf at h; split at h <;> cases h <;> simp [h0] at hr
  | retCond cc =>
    rw [exec_retCond] at h; unfold returnIf at h; split at h
    · exact withPop_fault h hr h0 fun w u v hv => by cases hv; rfl
    · cases h; simp [h0] at hr
  | rst y => rw [exec_rst] at h; cases h; simp [h0] at hr
  | rotReg op q => rw [exec_rotReg] at h; cases h; simp [h0] at hr
  | rotMem op =>
    rw [exec_rotMem] at h
    exact .inl (withRead_fault h hr fun v u hu => by cases hu; simp [h0])
  | bitReg b q => rw [exec_bitReg] at h; cases h; simp [State.testBitFlags, h0] at hr
  | bitMem b =>
    rw [exec_bitMem] at h
    exact .inl (withRead_fault h hr fun v u hu => by cases hu; simp [State.testBitFlags, h0])
  | resReg b q => rw [exec_resReg] at h; cases h; simp [h0] at hr
  | resMem b =>
    rw [exec_resMem] at h
    exact .inl (withRead_fault h hr fun v u hu => by cases hu; simp [h0])
  | setReg b q => rw [exec_setReg] at h; cases h; simp [h0] at hr
  | setMem b =>
    rw [exec_setMem] at h
    exact .inl (withRead_fault h hr fun v u hu => by cases hu; simp [h0])
  | ld_A_mBC => exact .inl (withRead_fault h hr fun v u hu => by cases hu; exact h0)
  | ld_A_mDE => exact .inl (withRead_fault h hr fun v u hu => by cases hu; exact h0)
  | ldh_A_mC => exact .inl (withRead_fault h hr fun v u hu => by cases hu; exact h0)
  | ldh_A_mn n => exact .inl (withRead_fault h hr fun v u hu => by cases hu; exact h0)
  | ld_A_mnn nn => exact .inl (withRead_fault h hr fun v u hu => by cases hu; exact h0)
  | ld_A_mHLinc => exact .inl (withRead_fault h hr fun v u hu => by cases hu; exact h0)
  | ld_A_mHLdec => exact .inl (withRead_fault h hr fun v u hu => by cases hu; exact h0)
  | inc_mHL => exact .inl (withRead_fault h hr fun v u hu => by cases hu; simp [State.setOutFlags, h0])
  | dec_mHL => exact .inl (withRead_fault h hr fun v u hu => by cases hu; simp [State.setOutFlags, h0])
  | ret =>
    have h : returnTo s = .next t := h
    exact withPop_fault h hr h0 fun w u v hv => by cases hv; rfl
  | reti =>
    have h : returnFromInterrupt s = .next t := h
    exact withPop_fault h hr h0 fun w u v hv => by cases hv; rfl
  | illegal op => cases h; cases hr; exact .inl rfl
  | call_nn nn => cases h; simp [h0] at hr
  | ld_mnn_SP nn => cases h; simp [State.memWrite16, h0] at hr
  | ei =>
    have h : execEi s = .next t := h
    unfold execEi at h
    split at h
    · cases h; simp [h0] at hr
    · split at h <;> cases h <;> simp [h0] at hr
  | ld_mBC_A => cases h; simp [h0] at hr
  | ld_mDE_A => cases h; simp [h0] at hr
  | ld_mnn_A nn => cases h; simp [h0] at hr
  | ldh_mn_A n => cases h; simp [h0] at hr
  | ldh_mC_A => cases h; simp [h0] at hr
  | ld_mHL_n n => cases h; simp [h0] at hr
  | ld_mHLinc_A => cases h; simp [h0] at hr
  | ld_mHLdec_A => cases h; simp [h0] at hr
  | _ => cases h; exact absurd (hr.symm.trans h0) (by simp)

end Sys2Proof.Machine
end

