-- ==== Sys2Proof/Laws/Flags.lean ====
section
/-! SUPPORT. What each flag and result computation gives, in numbers, said once (10_state.md R22; 42_alu8.md R161,
R162, R188, R190, R192, R193; 44_rotate_shift_bit.md R208, R230 to R235). -/

namespace Sys2Proof.Machine

/-! ### Writing the four flags (R22) -/

/-- Writing the flags of a state whose F is `s`'s: the four flags are those written, the low nibble is `s`'s. -/
theorem flagsAre_setFlags {s u : State} {z n h c z' n' h' c' : Bool} (hf : u.f = s.f) (hz : z = z') (hn : n = n')
    (hh : h = h') (hc : c = c') :
    (u.setFlags z n h c).FlagsAre z' n' h' c' ∧ SameFlagLow s (u.setFlags z n h c) := by
  subst hz hn hh hc
  exact ⟨⟨u.flagZ_setFlags .., u.flagN_setFlags .., u.flagH_setFlags .., u.flagC_setFlags ..⟩, by
    show flagsByte u.f z n h c &&& 0x0F = _; rw [flagsByte_low, hf]⟩

/-! ### 8-bit arithmetic -/

theorem bitVal_eq (c : Bool) : bitVal c = c.toNat := by cases c <;> rfl

/-- `Add8` (R161). -/
theorem add8_spec (a b : Byte) (c : Bool) :
    let sum := a.toNat + b.toNat + c.toNat
    (add8 a b c).res.toNat = sum % 256 ∧ (add8 a b c).z = decide (sum % 256 = 0) ∧ (add8 a b c).n = false ∧
      (add8 a b c).h = decide (a.toNat % 16 + b.toNat % 16 + c.toNat > 15) ∧
      (add8 a b c).c = decide (sum > 255) := by
  unfold add8
  simp only [bitVal_eq]
  refine ⟨by simp, ?_, trivial, ?_, ?_⟩ <;> try trivial
  rw [Bool.beq_eq_decide_eq]; simp only [← BitVec.toNat_inj]; simp

theorem toNat_ofInt8 (x : Int) : ((BitVec.ofInt 8 x).toNat : Int) = x % 256 := by
  rw [BitVec.toNat_ofInt]; simp; omega

/-- `Sub8` (R162). -/
theorem sub8_spec (a b : Byte) (c : Bool) :
    let diff : Int := (a.toNat : Int) - b.toNat - c.toNat
    ((sub8 a b c).res.toNat : Int) = diff % 256 ∧ (sub8 a b c).z = decide (diff % 256 = 0) ∧
      (sub8 a b c).n = true ∧ (sub8 a b c).h = decide (a.toNat % 16 < b.toNat % 16 + c.toNat) ∧
      (sub8 a b c).c = decide (diff < 0) := by
  intro diff
  have hres : ((sub8 a b c).res.toNat : Int) = diff % 256 := by
    unfold sub8; simp only [bitVal_eq]; exact toNat_ofInt8 _
  refine ⟨hres, ?_, rfl, ?_, ?_⟩
  · show ((sub8 a b c).res == 0) = _
    rw [Bool.eq_iff_iff]
    simp only [beq_iff_eq, decide_eq_true_eq, ← BitVec.toNat_inj]
    simp; omega
  · unfold sub8; simp only [bitVal_eq]; apply decide_eq_decide.2; omega
  · unfold sub8; simp only [bitVal_eq]; rfl

/-- The value and the zero test of `v + 1` and `v - 1` (R188, R190). -/
theorem inc_dec_spec : ∀ v : Byte,
    (v + 1).toNat = (v.toNat + 1) % 256 ∧ (v + 1 == 0) = decide (v.toNat = 255) ∧
      v + 1 = byteOf ((v.toNat + 1) % 256) ∧ (v - 1).toNat = (v.toNat + 255) % 256 ∧
      (v - 1 == 0) = decide (v.toNat = 1) ∧ v - 1 = byteOf ((v.toNat + 255) % 256) := by
  decide

/-- DAA (R192). -/
theorem daa8_spec : ∀ (n h c : Bool) (a : Byte),
    (daa8 a n h c).res.toNat = (adjusted a.toNat n h c).1 ∧ (daa8 a n h c).c = (adjusted a.toNat n h c).2 := by
  decide +kernel

/-- CPL (R193). -/
theorem cpl_spec : ∀ a : Byte, (a ^^^ 0xFF).toNat = 255 - a.toNat := by decide

/-! ### Rotates, shifts, bits -/

/-- The shift functions (R208). -/
theorem rotOut_spec (op : RotOp) : ∀ (c : Bool) (v : Byte),
    (rotOut op v c).1.toNat = (shifted op v.toNat c.toNat).1 ∧
      (rotOut op v c).2 = decide ((shifted op v.toNat c.toNat).2 = 1) ∧
      (rotOut op v c).1 = byteOf (shifted op v.toNat c.toNat).1 ∧
      ((rotOut op v c).1 == 0) = decide ((shifted op v.toNat c.toNat).1 = 0) := by
  cases op <;> decide +kernel

/-- The bit tested by BIT, cleared by RES, raised by SET. -/
theorem bit_spec (b : Oct) : ∀ v : Byte,
    (!v.getLsbD b.toNat) = decide (v.toNat / 2 ^ b.toNat % 2 = 0) ∧
      ∀ k, k < 8 → (clearBit b v).getLsbD k = (if k = b.toNat then false else v.getLsbD k) ∧
        (raiseBit b v).getLsbD k = (if k = b.toNat then true else v.getLsbD k) := by
  cases b <;> decide +kernel

/-! ### 16-bit arithmetic -/

/-- A word plus a sign-extended byte is the signed sum, modulo 65536 (R6). -/
theorem toNat_add_sext16 (x : Word) (e : Byte) :
    ((x + sext16 e).toNat : Int) = ((x.toNat : Int) + e.toInt) % 65536 := by
  have h2 : (sext16 e).toInt =
      if 2 * (sext16 e).toNat < 2 ^ 16 then ((sext16 e).toNat : Int) else ((sext16 e).toNat : Int) - 2 ^ 16 :=
    BitVec.toInt_eq_toNat_cond _
  rw [← sext16_toInt, h2, BitVec.toNat_add]
  have := (sext16 e).isLt
  split <;> omega

/-- Dropping the low nibble of F when AF is written (R21). -/
theorem word_mask_low (w : Word) : word (hiByte w) (loByte w &&& 0xF0) = w &&& 0xFFF0 := by
  unfold word hiByte loByte
  ext i hi
  simp
  have : i = 0 ∨ i = 1 ∨ i = 2 ∨ i = 3 ∨ i = 4 ∨ i = 5 ∨ i = 6 ∨ i = 7 ∨ i = 8 ∨ i = 9 ∨ i = 10 ∨ i = 11 ∨
      i = 12 ∨ i = 13 ∨ i = 14 ∨ i = 15 := by omega
  rcases this with rfl | rfl | rfl | rfl | rfl | rfl | rfl | rfl | rfl | rfl | rfl | rfl | rfl | rfl | rfl | rfl <;>
    simp

end Sys2Proof.Machine
end

