-- ==== Sys2Proof/Laws/Forms.lean ====
section
/-! SUPPORT. How the statements about one instruction are met: its code and cost from its opcode key, its reading
form, and the high-page address. -/

namespace Sys2Proof.Machine

/-- The code and cost of an unconditional instruction. The key may be computed on a form `j` with other immediates. -/
theorem codedAs_of (j : Instr) {i : Instr} {bs : List Byte} {n : Nat} (he : encode i = bs)
    (hk : opcodeKey i = opcodeKey j) (h1 : (defaultCycles (opcodeKey j)).1 = n)
    (h2 : conditionOf (opcodeKey j) = none) : CodedAs i bs n := by
  refine ⟨he, fun s h => ?_⟩
  unfold cycles
  simp only [hk, h, h2, cyclePair, h1]

/-- The same for a conditional instruction. -/
theorem codedAsIf_of (j : Instr) {i : Instr} {bs : List Byte} {n m : Nat} {cc : Cond} (he : encode i = bs)
    (hk : opcodeKey i = opcodeKey j) (h1 : defaultCycles (opcodeKey j) = (n, m))
    (h2 : conditionOf (opcodeKey j) = some cc) : CodedAsIf i bs cc n m := by
  refine ⟨he, fun s h => ?_⟩
  unfold cycles
  simp only [hk, h, h2, cyclePair, h1]

/-- An instruction whose meaning is a reading form. -/
theorem readsThen_of {i : Instr} {addr : State → Word} {k : State → Byte → Result}
    {post : State → Byte → State → Prop} (h : ∀ s, exec i s = withRead s (addr s) (k s))
    (hp : ∀ s v, ∃ t, k s v = .next t ∧ post s v t) : ReadsThen i addr post := by
  intro s
  refine ⟨fun v hv => ?_, fun r hr => ?_⟩
  · obtain ⟨t, h1, h2⟩ := hp s v
    exact ⟨t, by rw [h, withRead_ok hv, h1], h2⟩
  · rw [h, withRead_error hr]; rfl

/-- `0xFF00 | n` is `0xFF00 + n` (R141 to R144). -/
theorem highPage_eq (n : Byte) : highPage n = BitVec.ofNat 16 (0xFF00 + n.toNat) := by
  revert n; decide

end Sys2Proof.Machine
end

