-- ==== Sys2Proof/Laws/Step.lean ====
section
/-! SUPPORT. What a step can be, said once (60_exceptions.md R270): the dispatch, one idle cycle, a fetch that
faults, or an instruction; and what fetching bytes comes to. -/

namespace Sys2Proof.Machine

/-! ### Fetching (30_encoding.md R100) -/

theorem State.memRead_setPc (s : State) (pc a : Word) : ({ s with pc := pc } : State).memRead a = s.memRead a :=
  State.memRead_congr rfl rfl rfl rfl rfl a

theorem bytesAt_setPc {s : State} {pc a : Word} {bs : List Byte} (h : BytesAt s a bs) :
    BytesAt ({ s with pc := pc } : State) a bs := by
  induction bs generalizing a with
  | nil => trivial
  | cons v rest ih => exact ⟨by rw [State.memRead_setPc]; exact h.1, ih h.2⟩

theorem bytesAt_congr {s t : State} {a : Word} {bs : List Byte} (hr : ∀ a, t.memRead a = s.memRead a)
    (h : BytesAt s a bs) : BytesAt t a bs := by
  induction bs generalizing a with
  | nil => trivial
  | cons v rest ih => exact ⟨by rw [hr]; exact h.1, ih h.2⟩

/-- Readable bytes are fetched, and PC stands past them. -/
theorem fetchBytes_of_bytesAt {s : State} {bs : List Byte} (h : BytesAt s s.pc bs) :
    fetchBytes bs.length s = .bytes bs { s with pc := s.pc + BitVec.ofNat 16 bs.length } := by
  induction bs generalizing s with
  | nil => simp [fetchBytes]
  | cons v rest ih =>
    have h2 : BytesAt ({ s with pc := s.pc + 1 } : State) (s.pc + 1) rest := bytesAt_setPc h.2
    have e : s.pc + 1 + BitVec.ofNat 16 rest.length = s.pc + BitVec.ofNat 16 (rest.length + 1) := by
      rw [BitVec.add_assoc]; congr 1; apply BitVec.eq_of_toNat_eq; simp; omega
    simp only [List.length_cons, fetchBytes, h.1, ih h2, e]

/-- What a fetch of `k` bytes answers. -/
theorem fetchBytes_bytes {k : Nat} {s t : State} {bs : List Byte} (h : fetchBytes k s = .bytes bs t) :
    bs.length = k ∧ BytesAt s s.pc bs ∧ t = { s with pc := s.pc + BitVec.ofNat 16 k } := by
  induction k generalizing s bs t with
  | zero => cases h; exact ⟨rfl, trivial, by simp⟩
  | succ j ih =>
    unfold fetchBytes at h
    split at h
    · cases h
    rename_i v hv
    split at h
    · rename_i cs u hu
      cases h
      obtain ⟨h1, h2, h3⟩ := ih hu
      have e : s.pc + 1 + BitVec.ofNat 16 j = s.pc + BitVec.ofNat 16 (j + 1) := by
        rw [BitVec.add_assoc]; congr 1; apply BitVec.eq_of_toNat_eq; simp; omega
      refine ⟨by simp [h1], ⟨hv, ?_⟩, ?_⟩
      · exact bytesAt_congr (fun a => (State.memRead_setPc s _ a).symm) h2
      · rw [h3]; simp only [e]
    · cases h

/-- A fetch that faults has PC past the bytes it read, and has written nothing but the fault (R273). -/
theorem fetchBytes_raised {k : Nat} {s t : State} (h : fetchBytes k s = .raised t) :
    ∃ j < k, ∃ r, s.memRead (s.pc + BitVec.ofNat 16 j) = .error r ∧
      t = { s with pc := s.pc + BitVec.ofNat 16 j, fault := some r } := by
  induction k generalizing s t with
  | zero => cases h
  | succ j ih =>
    unfold fetchBytes at h
    split at h
    · rename_i r hr; cases h; exact ⟨0, Nat.succ_pos j, r, by simpa using hr, by simp [State.raise]⟩
    split at h
    · cases h
    · rename_i u hu
      cases h
      obtain ⟨q, hq, r, h1, h2⟩ := ih hu
      have e : s.pc + 1 + BitVec.ofNat 16 q = s.pc + BitVec.ofNat 16 (q + 1) := by
        rw [BitVec.add_assoc]; congr 1; apply BitVec.eq_of_toNat_eq; simp; omega
      refine ⟨q + 1, by omega, r, ?_, ?_⟩
      · rw [← e, ← State.memRead_setPc s (s.pc + 1)]; exact h1
      · rw [h2]; simp only [e]

/-- Fetching two parts is fetching their sum. -/
theorem fetchBytes_one {s : State} {v : Byte} (h : s.memRead s.pc = .ok v) :
    fetchBytes 1 s = .bytes [v] { s with pc := s.pc + 1 } := by
  simp [fetchBytes, h]

/-- What `FetchDecode` answers: an instruction decoded from the bytes at PC, with PC past them; or the fault of one
of its reads. -/
theorem fetchDecode_instr {s u : State} {i : Instr} (h : s.fetchDecode = .instr i u) :
    ∃ bs rest, decode bs = .ok (i, rest) ∧ bs.length ≤ 3 ∧ BytesAt s s.pc bs ∧ rest = [] ∧
      u = { s with pc := s.pc + BitVec.ofNat 16 bs.length } := by
  unfold State.fetchDecode at h
  split at h
  · cases h
  rename_i head t h1
  split at h
  · cases h
  rename_i op _
  split at h
  · cases h
  rename_i rest v h2
  split at h
  · rename_i j more hd
    cases h
    obtain ⟨a1, a2, a3⟩ := fetchBytes_bytes h1
    obtain ⟨b1, b2, b3⟩ := fetchBytes_bytes h2
    have ha : rest.length + 1 = instrLength op := by have := instrLength_pos op; omega
    obtain ⟨k, hk⟩ := decode_enough op rest (by omega)
    rw [hd] at hk
    have hm : more = [] := by
      have := congrArg (fun x => match x with | Except.ok p => p.2 | .error _ => []) hk
      simp only at this
      rw [this, List.drop_eq_nil_iff]; omega
    refine ⟨op :: rest, more, hd, ?_, ?_, hm, ?_⟩
    · have := instrLength_le op; simp only [List.length_cons]; omega
    · refine ⟨a2.1, ?_⟩
      rw [a3] at b2
      exact bytesAt_congr (fun a => (State.memRead_setPc s _ a).symm) (by simpa using b2)
    · rw [b3, a3]
      have e : s.pc + BitVec.ofNat 16 1 + BitVec.ofNat 16 (instrLength op - 1) =
          s.pc + BitVec.ofNat 16 (rest.length + 1) := by
        rw [BitVec.add_assoc]; congr 1; apply BitVec.eq_of_toNat_eq; simp; omega
      simp only [e, List.length_cons]
  · rename_i e he
    obtain ⟨k, hk⟩ := decode_enough op rest (by
      have := (fetchBytes_bytes h2).1; omega)
    rw [hk] at he; cases he

theorem fetchDecode_raised {s t : State} (h : s.fetchDecode = .raised t) :
    ∃ j < 3, ∃ r, s.memRead (s.pc + BitVec.ofNat 16 j) = .error r ∧
      t = { s with pc := s.pc + BitVec.ofNat 16 j, fault := some r } := by
  unfold State.fetchDecode at h
  split at h
  · rename_i u h1
    cases h
    obtain ⟨j, hj, r, h2⟩ := fetchBytes_raised h1
    exact ⟨j, by omega, r, h2⟩
  rename_i head u h1
  obtain ⟨a1, a2, a3⟩ := fetchBytes_bytes h1
  split at h
  · simp at a1
  rename_i op tail
  split at h
  · rename_i v h2
    cases h
    obtain ⟨j, hj, r, h3, h4⟩ := fetchBytes_raised h2
    have e : s.pc + BitVec.ofNat 16 1 + BitVec.ofNat 16 j = s.pc + BitVec.ofNat 16 (j + 1) := by
      rw [BitVec.add_assoc]; congr 1; apply BitVec.eq_of_toNat_eq; simp; omega
    have := instrLength_le op
    refine ⟨j + 1, by omega, r, ?_, ?_⟩
    · rw [a3] at h3
      simp only [e, State.memRead_setPc] at h3
      exact h3
    · rw [h4, a3]; simp only [e]
  rename_i rest v h2
  split at h
  · cases h
  rename_i d hd
  obtain ⟨k, hk⟩ := decode_enough op rest (by have := (fetchBytes_bytes h2).1; omega)
  rw [hk] at hd; cases hd

/-! ### The step -/

/-- Steps 1 and 2 write `inBIOS`, LY, IE and `halted` only. -/
theorem State.beginStep_eq (s : State) :
    s.beginStep = { s with
      inBios := s.beginStep.inBios
      mem := s.beginStep.mem
      halted := s.beginStep.halted } := by
  unfold State.beginStep State.wakeIfDue State.handoffIfDue
  repeat' split
  all_goals rfl

theorem State.handoffIfDue_of_not {s : State} (h : ¬(s.inBios = true ∧ s.pc = 0x0100)) : s.handoffIfDue = s :=
  if_neg h

theorem State.wakeIfDue_of_not {s : State} (h : ¬(s.halted = true ∧ s.wakes = true)) : s.wakeIfDue = s :=
  if_neg h

theorem State.wakeIfDue_of {s : State} (h : s.halted = true) (hw : s.wakes = true) :
    s.wakeIfDue = { s with halted := false } := if_pos ⟨h, hw⟩

/-- A property that steps 1 and 2 keep. -/
theorem State.beginStep_keeps {P : State → Prop} {s : State} (h0 : P s) (hh : ∀ s, P s → P (State.handoff s))
    (hw : ∀ s : State, P s → P { s with halted := false }) : P s.beginStep := by
  unfold State.beginStep State.wakeIfDue State.handoffIfDue
  repeat' split
  · exact hw _ (hh _ h0)
  · exact hh _ h0
  · exact hw _ h0
  · exact h0

theorem step_running {s t : State} (h : step s = .next t) : s.Running := by
  unfold step State.machineStep at h
  split at h
  · cases h
  · rename_i hf
    split at h
    · cases h
    · rename_i hs; exact ⟨hf, by simpa using hs⟩

/-- A running machine's step, in the state that steps 1 and 2 have prepared. -/
theorem step_eq_runStep {s : State} (h : s.Running) : step s = s.beginStep.runStep := by
  unfold step State.machineStep
  rw [h.1]
  simp [h.2]

/-- The four things a step can be. -/
inductive StepIs (s t : State) : Prop where
  | dispatch (hd : s.beginStep.dispatchable = true)
      (ht : t = s.beginStep.dispatch.tick s.params.dispatchCycles)
  | idle (hd : s.beginStep.dispatchable = false) (hh : s.beginStep.halted = true) (ht : t = s.beginStep.tick 1)
  | fetchFault (hd : s.beginStep.dispatchable = false) (hh : s.beginStep.halted = false)
      (h : s.beginStep.fetchDecode = .raised t)
  | instr (i : Instr) (u v : State) (hd : s.beginStep.dispatchable = false) (hh : s.beginStep.halted = false)
      (hf : s.beginStep.fetchDecode = .instr i u) (he : exec i u = .next v) (ht : t = v.endStep (cycles i u))

/-- Every step is one of them. -/
theorem step_cases {s t : State} (h : step s = .next t) : StepIs s t := by
  have hr := step_running h
  rw [step_eq_runStep hr] at h
  unfold State.runStep at h
  split at h
  · rename_i hd; cases h
    refine .dispatch hd ?_
    rw [State.beginStep_eq]
  rename_i hd
  have hd : s.beginStep.dispatchable = false := by simpa using hd
  split at h
  · rename_i hh; cases h; exact .idle hd hh rfl
  rename_i hh
  have hh : s.beginStep.halted = false := by simpa using hh
  split at h
  · rename_i u hf; cases h; exact .fetchFault hd hh hf
  · rename_i i u hf
    unfold finishInstr at h
    split at h
    · rename_i v he; cases h; exact .instr i u v hd hh hf he rfl
    · cases h
    · cases h

/-- Where the next step fetches, steps 1 and 2 do nothing. -/
theorem beginStep_of_fetches {s : State} (h : s.Fetches) : s.beginStep = s := by
  obtain ⟨_, hh, hb, _⟩ := h
  unfold State.beginStep State.handoffIfDue State.wakeIfDue
  rw [if_neg hb]
  simp [hh]

/-- Steps 6 and 7 without a fault. -/
theorem State.endStep_none {s : State} (h : s.fault = none) (n : Nat) : s.endStep n = s.countEi.tick n := by
  unfold State.endStep; rw [h]

theorem State.endStep_some {s : State} {r : Fault} (h : s.fault = some r) (n : Nat) : s.endStep n = s := by
  unfold State.endStep; rw [h]

/-- The EI countdown writes `eiCountdown` and `IME` only. -/
theorem State.countEi_eq (s : State) :
    s.countEi = { s with eiCountdown := s.eiCountdown - 1, ime := s.ime || s.eiCountdown == 1 } := by
  unfold State.countEi
  split
  · rename_i h; cases s; simp_all
  · rename_i h; cases s; simp_all
  · rename_i k h; cases s; simp_all

/-- A property that steps 6 and 7 keep. -/
theorem State.endStep_keeps {P : State → Prop} {s : State} {n : Nat} (h0 : P s)
    (he : ∀ s, P s → P (State.countEi s)) (ht : ∀ (s : State) n, P s → P (s.tick n)) : P (s.endStep n) := by
  unfold State.endStep
  split
  · exact h0
  · exact ht _ _ (he _ h0)

/-- An invariant of the machine: kept by each part of a step, it is kept by the step. -/
theorem step_keeps {P : State → Prop} {s t : State} (h : step s = .next t) (h0 : P s)
    (handoff : ∀ s, P s → P (State.handoff s))
    (wake : ∀ s : State, P s → P { s with halted := false })
    (dispatch : ∀ s, P s → P (State.dispatch s))
    (pc : ∀ (s : State) v, P s → P { s with pc := v })
    (raise : ∀ (s : State) r, P s → P (s.raise r))
    (instr : ∀ i s t, P s → exec i s = .next t → P t)
    (countEi : ∀ s, P s → P (State.countEi s))
    (tick : ∀ (s : State) n, P s → P (s.tick n)) : P t := by
  have hb : P s.beginStep := State.beginStep_keeps h0 handoff wake
  cases step_cases h with
  | dispatch hd ht => rw [ht]; exact tick _ _ (dispatch _ hb)
  | idle hd hh ht => rw [ht]; exact tick _ _ hb
  | fetchFault hd hh hf =>
    obtain ⟨j, _, r, _, rfl⟩ := fetchDecode_raised hf
    exact raise _ r (pc _ (s.beginStep.pc + BitVec.ofNat 16 j) hb)
  | instr i u v hd hh hf he ht =>
    obtain ⟨bs, rest, _, _, _, _, rfl⟩ := fetchDecode_instr hf
    rw [ht]
    exact State.endStep_keeps (instr _ _ _ (pc _ _ hb) he) countEi tick

end Sys2Proof.Machine
end

