-- ==== Sys2Proof/Laws/Time.lean ====
section
/-! SUPPORT. What `Tick` can change, said once (60_exceptions.md R285 to R288), and one pass of each counter loop. -/

namespace Sys2Proof.Machine

/-- `P` is closed under every update a tick may make. -/
structure TickKeeps (P : State → Prop) : Prop where
  cell : ∀ s a v, (a = ifAddr ∨ a = divAddr ∨ a = timaAddr) → P s → P (s.setCell a v)
  ly : ∀ (s : State) (v : Byte), v.toNat < lyLines → P s → P (s.setCell lyAddr v)
  event : ∀ s : State, P s → P { s with vblankEvent := true }
  m : ∀ (s : State) (k : Nat), P s → P { s with m := k }
  lyCounter : ∀ (s : State) (k : Nat), P s → P { s with lyCounter := k % s.params.lyPeriod }
  divCounter : ∀ (s : State) (k : Nat), P s → P { s with divCounter := k % s.params.divPeriod }
  timaCounter : ∀ (s : State) (k : Nat), P s → P { s with timaCounter := k % s.timaPeriod }

/-- A property closed under a tick's updates is kept by a tick. -/
theorem tick_keeps {P : State → Prop} (hk : TickKeeps P) (s : State) (n : Nat) (h : P s) : P (s.tick n) := by
  have e1 : ∀ s n, P s → P (State.lyAdvance s n) := by
    intro s n h
    refine repeatState_keeps (fun u hu => ?_) _ (hk.lyCounter _ _ h)
    unfold State.lyIncrement
    simp only
    have hl : P (u.setCell lyAddr (BitVec.ofNat 8 ((u.ly.toNat + 1) % lyLines))) := by
      refine hk.ly _ _ ?_ hu
      have : (u.ly.toNat + 1) % lyLines < 154 := Nat.mod_lt _ (by decide)
      show _ < 154
      simp; omega
    split
    · exact hk.event _ (hk.cell _ _ _ (.inl rfl) hl)
    · exact hl
  have e2 : ∀ s n, P s → P (State.divAdvance s n) := fun s n h =>
    repeatState_keeps (fun u hu => hk.cell _ _ _ (.inr (.inl rfl)) hu) _ (hk.divCounter _ _ h)
  have e3 : ∀ s n, P s → P (State.timaAdvance s n) := by
    intro s n h
    unfold State.timaAdvance
    split
    · exact h
    · refine repeatState_keeps (fun u hu => ?_) _ (hk.timaCounter _ _ h)
      unfold State.timaIncrement
      split
      · exact hk.cell _ _ _ (.inl rfl) (hk.cell _ _ _ (.inr (.inr rfl)) hu)
      · exact hk.cell _ _ _ (.inr (.inr rfl)) hu
  exact e3 _ _ (e2 _ _ (e1 _ _ (hk.m _ _ h)))

/-- The number of passes and the remainder, one pass at a time. -/
theorem passes_succ {total p : Nat} (hp : 0 < p) (h : p ≤ total) :
    total / p = (total - p) / p + 1 ∧ total % p = (total - p) % p :=
  ⟨by rw [Nat.div_eq_sub_div hp h], Nat.mod_eq_sub_mod h⟩

/-- A pass of the scanline loop does not use its sub-counter. -/
theorem State.lyIncrement_lyCounterWith (s : State) (k : Nat) :
    State.lyIncrement { s with lyCounter := k } = { State.lyIncrement s with lyCounter := k } := by
  unfold State.lyIncrement
  simp only
  by_cases hc : (s.ly.toNat + 1) % lyLines = lyVblank
  · rw [if_pos hc, if_pos (show ((State.ly { s with lyCounter := k }).toNat + 1) % lyLines = lyVblank from hc)]; rfl
  · rw [if_neg hc, if_neg (show ¬((State.ly { s with lyCounter := k }).toNat + 1) % lyLines = lyVblank from hc)]; rfl

/-- A pass of the timer loop does not use its sub-counter. -/
theorem State.timaIncrement_timaCounterWith (s : State) (k : Nat) :
    State.timaIncrement { s with timaCounter := k } = { State.timaIncrement s with timaCounter := k } := by
  unfold State.timaIncrement
  by_cases hc : s.tima = 0xFF
  · rw [if_pos hc, if_pos (show State.tima { s with timaCounter := k } = 0xFF from hc)]; rfl
  · rw [if_neg hc, if_neg (show ¬State.tima { s with timaCounter := k } = 0xFF from hc)]; rfl

end Sys2Proof.Machine
end

