-- ==== Sys2Proof/Tests/Slice0.lean ====
section
/-! SUPPORT. The model's own tests. The expected results of the instruction tests are the vectors of
95_test_vectors.md (part 2 and the source's properties of part 1); the words of the decode tests are those of the
opcode maps R112 to R116, as opcode_table.json lists them. The theorems named `witness_…` show a concrete state that
meets the hypotheses of a statement, each clause at a boundary of its range. -/

namespace Sys2Proof.Tests

open Sys2Proof Sys2Proof.Machine

/-! ### Helpers -/

/-- The machine of 95_test_vectors.md: reset, the code bytes in working RAM at 0xC000, PC there, F = 0. -/
def code (bs : List Byte) : State := placeBytes bs 0xC000 { State.reset with pc := 0xC000, f := 0x00 }

/-- `s` with cells of `mem` set. -/
def put (s : State) (cells : List (Nat × Byte)) : State := List.foldl (fun t c => t.setCell c.1 c.2) s cells

/-- Does the step of `s` answer a next state with `p`. -/
def after (s : State) (p : State → Bool) : Bool :=
  match step s with
  | .next t => p t
  | _ => false

/-- The first instruction of `bs`. -/
def readInstr (bs : List Byte) : Option Instr :=
  match decode bs with
  | .ok (i, _) => some i
  | .error _ => none

/-- A bank controller's machine with `k` ROM banks, each with its number in its first byte (95_test_vectors.md S4), and
four RAM banks. -/
def cart (kind : CartKind) (k : Nat) (rom : Memory) : State :=
  State.resetOf { standardParams with
    cartKind := kind, romBanks := k, rom := rom, ramBanks := 4, ramSize := 0x8000 }

/-- The banks 1 to 3 marked. -/
def marked : Memory := [(0x4000, 0x01), (0x8000, 0x02), (0xC000, 0x03)]

/-- A state still in an all-zero BIOS, at `pc`. -/
def inBios (pc : Word) : State := { State.resetOf { standardParams with skipBios := false } with pc := pc }

/-- A read gives the byte `v`. -/
def reads (s : State) (a : Word) (v : Byte) : Bool :=
  match s.memRead a with
  | .ok w => w == v
  | .error _ => false

/-! ### Well-formedness refuses -/

theorem test_wf_undefined_byte_only : (Instr.illegal 0x00).wellFormed = false := rfl
theorem test_wf_prefix_is_no_illegal : (Instr.illegal 0xCB).wellFormed = false := rfl
theorem test_wf_params : standardParams.wf := by decide
theorem test_wf_bios_size : ¬({ standardParams with bios := [(0x100, 0x01)] } : Params).wf := by decide
theorem test_wf_bios_order : ¬({ standardParams with bios := [(1, 0x01), (0, 0x01)] } : Params).wf := by decide
theorem test_wf_rom_size : ¬({ standardParams with rom := [(0x8000, 0x01)] } : Params).wf := by decide
theorem test_wf_rom_zero_entry : ¬({ standardParams with rom := [(0, 0x00)] } : Params).wf := by decide
theorem test_wf_rom_banks : ¬({ standardParams with romBanks := 1 } : Params).wf := by decide
theorem test_wf_ram_size : ¬({ standardParams with cartKind := .mbc1, ramSize := 1 } : Params).wf := by decide
theorem test_wf_none_has_no_ram : ¬({ standardParams with ramBanks := 1 } : Params).wf := by decide
theorem test_wf_ext_ram_size : ¬({ standardParams with extRamInit := [(0, 0x01)] } : Params).wf := by decide
theorem test_wf_ly_period : ¬({ standardParams with lyPeriod := 0 } : Params).wf := by decide
theorem test_wf_div_period : ¬({ standardParams with divPeriod := 0 } : Params).wf := by decide
theorem test_wf_tima_period :
    ¬({ standardParams with timaPeriod := { p0 := 256, p1 := 4, p2 := 16, p3 := 0 } } : Params).wf := by decide
theorem test_wf_io_is_a_cell : ¬({ standardParams with postBiosIo := [(0x7FFF, 0x01)] } : Params).wf := by decide
theorem test_wf_io_not_vbk : ¬({ standardParams with postBiosIo := [(0xFF4F, 0x01)] } : Params).wf := by decide
theorem test_wf_io_ly : ¬({ standardParams with postBiosIo := [(0xFF44, 154)] } : Params).wf := by decide

/-! ### Decoding: every opcode of the five maps (R112 to R116), operand bytes 0x34 0x12 -/

theorem test_words_00 :
    List.map (fun op => readInstr [op, 0x34, 0x12]) [
      0x00, 0x01, 0x02, 0x03, 0x04, 0x05, 0x06, 0x07, 0x08, 0x09, 0x0A, 0x0B, 0x0C, 0x0D, 0x0E, 0x0F] = [
      some .nop, some (.ld_BC_nn 0x1234), some .ld_mBC_A, some .inc_BC, some .inc_B, some .dec_B,
      some (.ld_B_n 0x34), some .rlca, some (.ld_mnn_SP 0x1234), some .add_HL_BC, some .ld_A_mBC, some .dec_BC,
      some .inc_C, some .dec_C, some (.ld_C_n 0x34), some .rrca] := rfl
theorem test_words_10 :
    List.map (fun op => readInstr [op, 0x34, 0x12]) [
      0x10, 0x11, 0x12, 0x13, 0x14, 0x15, 0x16, 0x17, 0x18, 0x19, 0x1A, 0x1B, 0x1C, 0x1D, 0x1E, 0x1F] = [
      some (.stop 0x34), some (.ld_DE_nn 0x1234), some .ld_mDE_A, some .inc_DE, some .inc_D, some .dec_D,
      some (.ld_D_n 0x34), some .rla, some (.jr_e 0x34), some .add_HL_DE, some .ld_A_mDE, some .dec_DE, some .inc_E,
      some .dec_E, some (.ld_E_n 0x34), some .rra] := rfl
theorem test_words_20 :
    List.map (fun op => readInstr [op, 0x34, 0x12]) [
      0x20, 0x21, 0x22, 0x23, 0x24, 0x25, 0x26, 0x27, 0x28, 0x29, 0x2A, 0x2B, 0x2C, 0x2D, 0x2E, 0x2F] = [
      some (.jr_NZ_e 0x34), some (.ld_HL_nn 0x1234), some .ld_mHLinc_A, some .inc_HL, some .inc_H, some .dec_H,
      some (.ld_H_n 0x34), some .daa, some (.jr_Z_e 0x34), some .add_HL_HL, some .ld_A_mHLinc, some .dec_HL,
      some .inc_L, some .dec_L, some (.ld_L_n 0x34), some .cpl] := rfl
theorem test_words_30 :
    List.map (fun op => readInstr [op, 0x34, 0x12]) [
      0x30, 0x31, 0x32, 0x33, 0x34, 0x35, 0x36, 0x37, 0x38, 0x39, 0x3A, 0x3B, 0x3C, 0x3D, 0x3E, 0x3F] = [
      some (.jr_NC_e 0x34), some (.ld_SP_nn 0x1234), some .ld_mHLdec_A, some .inc_SP, some .inc_mHL, some .dec_mHL,
      some (.ld_mHL_n 0x34), some .scf, some (.jr_C_e 0x34), some .add_HL_SP, some .ld_A_mHLdec, some .dec_SP,
      some .inc_A, some .dec_A, some (.ld_A_n 0x34), some .ccf] := rfl
theorem test_words_40 :
    List.map (fun op => readInstr [op, 0x34, 0x12]) [
      0x40, 0x41, 0x42, 0x43, 0x44, 0x45, 0x46, 0x47, 0x48, 0x49, 0x4A, 0x4B, 0x4C, 0x4D, 0x4E, 0x4F] = [
      some .ld_B_B, some .ld_B_C, some .ld_B_D, some .ld_B_E, some .ld_B_H, some .ld_B_L, some .ld_B_mHL,
      some .ld_B_A, some .ld_C_B, some .ld_C_C, some .ld_C_D, some .ld_C_E, some .ld_C_H, some .ld_C_L,
      some .ld_C_mHL, some .ld_C_A] := rfl
theorem test_words_50 :
    List.map (fun op => readInstr [op, 0x34, 0x12]) [
      0x50, 0x51, 0x52, 0x53, 0x54, 0x55, 0x56, 0x57, 0x58, 0x59, 0x5A, 0x5B, 0x5C, 0x5D, 0x5E, 0x5F] = [
      some .ld_D_B, some .ld_D_C, some .ld_D_D, some .ld_D_E, some .ld_D_H, some .ld_D_L, some .ld_D_mHL,
      some .ld_D_A, some .ld_E_B, some .ld_E_C, some .ld_E_D, some .ld_E_E, some .ld_E_H, some .ld_E_L,
      some .ld_E_mHL, some .ld_E_A] := rfl
theorem test_words_60 :
    List.map (fun op => readInstr [op, 0x34, 0x12]) [
      0x60, 0x61, 0x62, 0x63, 0x64, 0x65, 0x66, 0x67, 0x68, 0x69, 0x6A, 0x6B, 0x6C, 0x6D, 0x6E, 0x6F] = [
      some .ld_H_B, some .ld_H_C, some .ld_H_D, some .ld_H_E, some .ld_H_H, some .ld_H_L, some .ld_H_mHL,
      some .ld_H_A, some .ld_L_B, some .ld_L_C, some .ld_L_D, some .ld_L_E, some .ld_L_H, some .ld_L_L,
      some .ld_L_mHL, some .ld_L_A] := rfl
theorem test_words_70 :
    List.map (fun op => readInstr [op, 0x34, 0x12]) [
      0x70, 0x71, 0x72, 0x73, 0x74, 0x75, 0x76, 0x77, 0x78, 0x79, 0x7A, 0x7B, 0x7C, 0x7D, 0x7E, 0x7F] = [
      some .ld_mHL_B, some .ld_mHL_C, some .ld_mHL_D, some .ld_mHL_E, some .ld_mHL_H, some .ld_mHL_L, some .halt,
      some .ld_mHL_A, some .ld_A_B, some .ld_A_C, some .ld_A_D, some .ld_A_E, some .ld_A_H, some .ld_A_L,
      some .ld_A_mHL, some .ld_A_A] := rfl
theorem test_words_80 :
    List.map (fun op => readInstr [op, 0x34, 0x12]) [
      0x80, 0x81, 0x82, 0x83, 0x84, 0x85, 0x86, 0x87, 0x88, 0x89, 0x8A, 0x8B, 0x8C, 0x8D, 0x8E, 0x8F] = [
      some .add_A_B, some .add_A_C, some .add_A_D, some .add_A_E, some .add_A_H, some .add_A_L, some .add_A_mHL,
      some .add_A_A, some .adc_A_B, some .adc_A_C, some .adc_A_D, some .adc_A_E, some .adc_A_H, some .adc_A_L,
      some .adc_A_mHL, some .adc_A_A] := rfl
theorem test_words_90 :
    List.map (fun op => readInstr [op, 0x34, 0x12]) [
      0x90, 0x91, 0x92, 0x93, 0x94, 0x95, 0x96, 0x97, 0x98, 0x99, 0x9A, 0x9B, 0x9C, 0x9D, 0x9E, 0x9F] = [
      some .sub_A_B, some .sub_A_C, some .sub_A_D, some .sub_A_E, some .sub_A_H, some .sub_A_L, some .sub_A_mHL,
      some .sub_A_A, some .sbc_A_B, some .sbc_A_C, some .sbc_A_D, some .sbc_A_E, some .sbc_A_H, some .sbc_A_L,
      some .sbc_A_mHL, some .sbc_A_A] := rfl
theorem test_words_A0 :
    List.map (fun op => readInstr [op, 0x34, 0x12]) [
      0xA0, 0xA1, 0xA2, 0xA3, 0xA4, 0xA5, 0xA6, 0xA7, 0xA8, 0xA9, 0xAA, 0xAB, 0xAC, 0xAD, 0xAE, 0xAF] = [
      some .and_A_B, some .and_A_C, some .and_A_D, some .and_A_E, some .and_A_H, some .and_A_L, some .and_A_mHL,
      some .and_A_A, some .xor_A_B, some .xor_A_C, some .xor_A_D, some .xor_A_E, some .xor_A_H, some .xor_A_L,
      some .xor_A_mHL, some .xor_A_A] := rfl
theorem test_words_B0 :
    List.map (fun op => readInstr [op, 0x34, 0x12]) [
      0xB0, 0xB1, 0xB2, 0xB3, 0xB4, 0xB5, 0xB6, 0xB7, 0xB8, 0xB9, 0xBA, 0xBB, 0xBC, 0xBD, 0xBE, 0xBF] = [
      some .or_A_B, some .or_A_C, some .or_A_D, some .or_A_E, some .or_A_H, some .or_A_L, some .or_A_mHL,
      some .or_A_A, some .cp_A_B, some .cp_A_C, some .cp_A_D, some .cp_A_E, some .cp_A_H, some .cp_A_L,
      some .cp_A_mHL, some .cp_A_A] := rfl
theorem test_words_C0 :
    List.map (fun op => readInstr [op, 0x34, 0x12]) [
      0xC0, 0xC1, 0xC2, 0xC3, 0xC4, 0xC5, 0xC6, 0xC7, 0xC8, 0xC9, 0xCA, 0xCC, 0xCD, 0xCE, 0xCF] = [
      some .ret_NZ, some .pop_BC, some (.jp_NZ_nn 0x1234), some (.jp_nn 0x1234), some (.call_NZ_nn 0x1234),
      some .push_BC, some (.add_A_n 0x34), some .rst_00, some .ret_Z, some .ret, some (.jp_Z_nn 0x1234),
      some (.call_Z_nn 0x1234), some (.call_nn 0x1234), some (.adc_A_n 0x34), some .rst_08] := rfl
theorem test_words_D0 :
    List.map (fun op => readInstr [op, 0x34, 0x12]) [
      0xD0, 0xD1, 0xD2, 0xD3, 0xD4, 0xD5, 0xD6, 0xD7, 0xD8, 0xD9, 0xDA, 0xDB, 0xDC, 0xDD, 0xDE, 0xDF] = [
      some .ret_NC, some .pop_DE, some (.jp_NC_nn 0x1234), some (.illegal 0xD3), some (.call_NC_nn 0x1234),
      some .push_DE, some (.sub_A_n 0x34), some .rst_10, some .ret_C, some .reti, some (.jp_C_nn 0x1234),
      some (.illegal 0xDB), some (.call_C_nn 0x1234), some (.illegal 0xDD), some (.sbc_A_n 0x34), some .rst_18] := rfl
theorem test_words_E0 :
    List.map (fun op => readInstr [op, 0x34, 0x12]) [
      0xE0, 0xE1, 0xE2, 0xE3, 0xE4, 0xE5, 0xE6, 0xE7, 0xE8, 0xE9, 0xEA, 0xEB, 0xEC, 0xED, 0xEE, 0xEF] = [
      some (.ldh_mn_A 0x34), some .pop_HL, some .ldh_mC_A, some (.illegal 0xE3), some (.illegal 0xE4), some .push_HL,
      some (.and_A_n 0x34), some .rst_20, some (.add_SP_e 0x34), some .jp_HL, some (.ld_mnn_A 0x1234),
      some (.illegal 0xEB), some (.illegal 0xEC), some (.illegal 0xED), some (.xor_A_n 0x34), some .rst_28] := rfl
theorem test_words_F0 :
    List.map (fun op => readInstr [op, 0x34, 0x12]) [
      0xF0, 0xF1, 0xF2, 0xF3, 0xF4, 0xF5, 0xF6, 0xF7, 0xF8, 0xF9, 0xFA, 0xFB, 0xFC, 0xFD, 0xFE, 0xFF] = [
      some (.ldh_A_mn 0x34), some .pop_AF, some .ldh_A_mC, some .di, some (.illegal 0xF4), some .push_AF,
      some (.or_A_n 0x34), some .rst_30, some (.ld_HL_SPe 0x34), some .ld_SP_HL, some (.ld_A_mnn 0x1234), some .ei,
      some (.illegal 0xFC), some (.illegal 0xFD), some (.cp_A_n 0x34), some .rst_38] := rfl
theorem test_words_CB_00 :
    List.map (fun op => readInstr [0xCB, op]) [
      0x00, 0x01, 0x02, 0x03, 0x04, 0x05, 0x06, 0x07, 0x08, 0x09, 0x0A, 0x0B, 0x0C, 0x0D, 0x0E, 0x0F] = [
      some .rlc_B, some .rlc_C, some .rlc_D, some .rlc_E, some .rlc_H, some .rlc_L, some .rlc_mHL, some .rlc_A,
      some .rrc_B, some .rrc_C, some .rrc_D, some .rrc_E, some .rrc_H, some .rrc_L, some .rrc_mHL, some .rrc_A] := rfl
theorem test_words_CB_10 :
    List.map (fun op => readInstr [0xCB, op]) [
      0x10, 0x11, 0x12, 0x13, 0x14, 0x15, 0x16, 0x17, 0x18, 0x19, 0x1A, 0x1B, 0x1C, 0x1D, 0x1E, 0x1F] = [
      some .rl_B, some .rl_C, some .rl_D, some .rl_E, some .rl_H, some .rl_L, some .rl_mHL, some .rl_A, some .rr_B,
      some .rr_C, some .rr_D, some .rr_E, some .rr_H, some .rr_L, some .rr_mHL, some .rr_A] := rfl
theorem test_words_CB_20 :
    List.map (fun op => readInstr [0xCB, op]) [
      0x20, 0x21, 0x22, 0x23, 0x24, 0x25, 0x26, 0x27, 0x28, 0x29, 0x2A, 0x2B, 0x2C, 0x2D, 0x2E, 0x2F] = [
      some .sla_B, some .sla_C, some .sla_D, some .sla_E, some .sla_H, some .sla_L, some .sla_mHL, some .sla_A,
      some .sra_B, some .sra_C, some .sra_D, some .sra_E, some .sra_H, some .sra_L, some .sra_mHL, some .sra_A] := rfl
theorem test_words_CB_30 :
    List.map (fun op => readInstr [0xCB, op]) [
      0x30, 0x31, 0x32, 0x33, 0x34, 0x35, 0x36, 0x37, 0x38, 0x39, 0x3A, 0x3B, 0x3C, 0x3D, 0x3E, 0x3F] = [
      some .swap_B, some .swap_C, some .swap_D, some .swap_E, some .swap_H, some .swap_L, some .swap_mHL,
      some .swap_A, some .srl_B, some .srl_C, some .srl_D, some .srl_E, some .srl_H, some .srl_L, some .srl_mHL,
      some .srl_A] := rfl
theorem test_words_CB_40 :
    List.map (fun op => readInstr [0xCB, op]) [
      0x40, 0x41, 0x42, 0x43, 0x44, 0x45, 0x46, 0x47, 0x48, 0x49, 0x4A, 0x4B, 0x4C, 0x4D, 0x4E, 0x4F] = [
      some .bit_0_B, some .bit_0_C, some .bit_0_D, some .bit_0_E, some .bit_0_H, some .bit_0_L, some .bit_0_mHL,
      some .bit_0_A, some .bit_1_B, some .bit_1_C, some .bit_1_D, some .bit_1_E, some .bit_1_H, some .bit_1_L,
      some .bit_1_mHL, some .bit_1_A] := rfl
theorem test_words_CB_50 :
    List.map (fun op => readInstr [0xCB, op]) [
      0x50, 0x51, 0x52, 0x53, 0x54, 0x55, 0x56, 0x57, 0x58, 0x59, 0x5A, 0x5B, 0x5C, 0x5D, 0x5E, 0x5F] = [
      some .bit_2_B, some .bit_2_C, some .bit_2_D, some .bit_2_E, some .bit_2_H, some .bit_2_L, some .bit_2_mHL,
      some .bit_2_A, some .bit_3_B, some .bit_3_C, some .bit_3_D, some .bit_3_E, some .bit_3_H, some .bit_3_L,
      some .bit_3_mHL, some .bit_3_A] := rfl
theorem test_words_CB_60 :
    List.map (fun op => readInstr [0xCB, op]) [
      0x60, 0x61, 0x62, 0x63, 0x64, 0x65, 0x66, 0x67, 0x68, 0x69, 0x6A, 0x6B, 0x6C, 0x6D, 0x6E, 0x6F] = [
      some .bit_4_B, some .bit_4_C, some .bit_4_D, some .bit_4_E, some .bit_4_H, some .bit_4_L, some .bit_4_mHL,
      some .bit_4_A, some .bit_5_B, some .bit_5_C, some .bit_5_D, some .bit_5_E, some .bit_5_H, some .bit_5_L,
      some .bit_5_mHL, some .bit_5_A] := rfl
theorem test_words_CB_70 :
    List.map (fun op => readInstr [0xCB, op]) [
      0x70, 0x71, 0x72, 0x73, 0x74, 0x75, 0x76, 0x77, 0x78, 0x79, 0x7A, 0x7B, 0x7C, 0x7D, 0x7E, 0x7F] = [
      some .bit_6_B, some .bit_6_C, some .bit_6_D, some .bit_6_E, some .bit_6_H, some .bit_6_L, some .bit_6_mHL,
      some .bit_6_A, some .bit_7_B, some .bit_7_C, some .bit_7_D, some .bit_7_E, some .bit_7_H, some .bit_7_L,
      some .bit_7_mHL, some .bit_7_A] := rfl
theorem test_words_CB_80 :
    List.map (fun op => readInstr [0xCB, op]) [
      0x80, 0x81, 0x82, 0x83, 0x84, 0x85, 0x86, 0x87, 0x88, 0x89, 0x8A, 0x8B, 0x8C, 0x8D, 0x8E, 0x8F] = [
      some .res_0_B, some .res_0_C, some .res_0_D, some .res_0_E, some .res_0_H, some .res_0_L, some .res_0_mHL,
      some .res_0_A, some .res_1_B, some .res_1_C, some .res_1_D, some .res_1_E, some .res_1_H, some .res_1_L,
      some .res_1_mHL, some .res_1_A] := rfl
theorem test_words_CB_90 :
    List.map (fun op => readInstr [0xCB, op]) [
      0x90, 0x91, 0x92, 0x93, 0x94, 0x95, 0x96, 0x97, 0x98, 0x99, 0x9A, 0x9B, 0x9C, 0x9D, 0x9E, 0x9F] = [
      some .res_2_B, some .res_2_C, some .res_2_D, some .res_2_E, some .res_2_H, some .res_2_L, some .res_2_mHL,
      some .res_2_A, some .res_3_B, some .res_3_C, some .res_3_D, some .res_3_E, some .res_3_H, some .res_3_L,
      some .res_3_mHL, some .res_3_A] := rfl
theorem test_words_CB_A0 :
    List.map (fun op => readInstr [0xCB, op]) [
      0xA0, 0xA1, 0xA2, 0xA3, 0xA4, 0xA5, 0xA6, 0xA7, 0xA8, 0xA9, 0xAA, 0xAB, 0xAC, 0xAD, 0xAE, 0xAF] = [
      some .res_4_B, some .res_4_C, some .res_4_D, some .res_4_E, some .res_4_H, some .res_4_L, some .res_4_mHL,
      some .res_4_A, some .res_5_B, some .res_5_C, some .res_5_D, some .res_5_E, some .res_5_H, some .res_5_L,
      some .res_5_mHL, some .res_5_A] := rfl
theorem test_words_CB_B0 :
    List.map (fun op => readInstr [0xCB, op]) [
      0xB0, 0xB1, 0xB2, 0xB3, 0xB4, 0xB5, 0xB6, 0xB7, 0xB8, 0xB9, 0xBA, 0xBB, 0xBC, 0xBD, 0xBE, 0xBF] = [
      some .res_6_B, some .res_6_C, some .res_6_D, some .res_6_E, some .res_6_H, some .res_6_L, some .res_6_mHL,
      some .res_6_A, some .res_7_B, some .res_7_C, some .res_7_D, some .res_7_E, some .res_7_H, some .res_7_L,
      some .res_7_mHL, some .res_7_A] := rfl
theorem test_words_CB_C0 :
    List.map (fun op => readInstr [0xCB, op]) [
      0xC0, 0xC1, 0xC2, 0xC3, 0xC4, 0xC5, 0xC6, 0xC7, 0xC8, 0xC9, 0xCA, 0xCB, 0xCC, 0xCD, 0xCE, 0xCF] = [
      some .set_0_B, some .set_0_C, some .set_0_D, some .set_0_E, some .set_0_H, some .set_0_L, some .set_0_mHL,
      some .set_0_A, some .set_1_B, some .set_1_C, some .set_1_D, some .set_1_E, some .set_1_H, some .set_1_L,
      some .set_1_mHL, some .set_1_A] := rfl
theorem test_words_CB_D0 :
    List.map (fun op => readInstr [0xCB, op]) [
      0xD0, 0xD1, 0xD2, 0xD3, 0xD4, 0xD5, 0xD6, 0xD7, 0xD8, 0xD9, 0xDA, 0xDB, 0xDC, 0xDD, 0xDE, 0xDF] = [
      some .set_2_B, some .set_2_C, some .set_2_D, some .set_2_E, some .set_2_H, some .set_2_L, some .set_2_mHL,
      some .set_2_A, some .set_3_B, some .set_3_C, some .set_3_D, some .set_3_E, some .set_3_H, some .set_3_L,
      some .set_3_mHL, some .set_3_A] := rfl
theorem test_words_CB_E0 :
    List.map (fun op => readInstr [0xCB, op]) [
      0xE0, 0xE1, 0xE2, 0xE3, 0xE4, 0xE5, 0xE6, 0xE7, 0xE8, 0xE9, 0xEA, 0xEB, 0xEC, 0xED, 0xEE, 0xEF] = [
      some .set_4_B, some .set_4_C, some .set_4_D, some .set_4_E, some .set_4_H, some .set_4_L, some .set_4_mHL,
      some .set_4_A, some .set_5_B, some .set_5_C, some .set_5_D, some .set_5_E, some .set_5_H, some .set_5_L,
      some .set_5_mHL, some .set_5_A] := rfl
theorem test_words_CB_F0 :
    List.map (fun op => readInstr [0xCB, op]) [
      0xF0, 0xF1, 0xF2, 0xF3, 0xF4, 0xF5, 0xF6, 0xF7, 0xF8, 0xF9, 0xFA, 0xFB, 0xFC, 0xFD, 0xFE, 0xFF] = [
      some .set_6_B, some .set_6_C, some .set_6_D, some .set_6_E, some .set_6_H, some .set_6_L, some .set_6_mHL,
      some .set_6_A, some .set_7_B, some .set_7_C, some .set_7_D, some .set_7_E, some .set_7_H, some .set_7_L,
      some .set_7_mHL, some .set_7_A] := rfl
theorem test_decode_truncated : readInstr [] = none ∧ readInstr [0x3E] = none ∧ readInstr [0xC3, 0x34] = none ∧
    readInstr [0xCB] = none := ⟨rfl, rfl, rfl, rfl⟩
theorem test_table_word_main : decodeTableWord 24 0x1234C3 = some (.jp_nn 0x1234) := rfl
theorem test_table_word_short : decodeTableWord 8 0x3E = some (.ld_A_n 0x00) := rfl
theorem test_table_word_cb : decodeTableWord 16 0xCB7E = some .bit_7_mHL := rfl
theorem test_table_word_illegal : decodeTableWord 8 0xFD = some (.illegal 0xFD) := rfl
theorem test_placed_word_runs :
    after (State.reset.withFetchWord 16 0xCB37) (fun t => t.a == 0x10 && t.pc == 0x0102 && t.m == 2) = true := by
  decide
theorem test_placed_illegal_raises :
    after (State.reset.withFetchWord 8 0xD3) (fun t => t.fault == some (.unimplementedOpcode 0x0100 0xD3)) = true := by
  decide

/-! ### Instructions: one step each -/

theorem test_LD_B_C :
    after { code [0x41] with b := 0x01, c := 0x9C }
      (fun t => t.b == 0x9C && t.m == 1 && t.f == 0x00) = true := by decide
theorem test_LD_B_B :
    after { code [0x40] with b := 0x77 } (fun t => t.b == 0x77 && t.m == 1 && t.f == 0x00) = true := by decide
theorem test_LD_H_mHL :
    after { put (code [0x66]) [(0xD012, 0x5C)] with h := 0xD0, l := 0x12 }
      (fun t => t.h == 0x5C && t.l == 0x12 && t.m == 2 && t.f == 0x00) = true := by decide
theorem test_LD_mHL_L :
    after { code [0x75] with h := 0xD0, l := 0x12 }
      (fun t => t.cell 0xD012 == 0x12 && t.m == 2 && t.f == 0x00) = true := by decide
theorem test_LD_mHL_n :
    after { code [0x36, 0xAB] with h := 0xD0, l := 0x00 }
      (fun t => t.cell 0xD000 == 0xAB && t.pc == 0xC002 && t.m == 3 && t.f == 0x00) = true := by decide
theorem test_LD_A_mBC :
    after { put (code [0x0A]) [(0xD001, 0x2F)] with b := 0xD0, c := 0x01 }
      (fun t => t.a == 0x2F && t.m == 2 && t.f == 0x00) = true := by decide
theorem test_LD_mDE_A :
    after { code [0x12] with d := 0xD0, e := 0x02, a := 0x3C }
      (fun t => t.cell 0xD002 == 0x3C && t.m == 2 && t.f == 0x00) = true := by decide
theorem test_LD_A_mnn :
    after (put (code [0xFA, 0x44, 0xFF]) [(0xFF44, 0x90)])
      (fun t => t.a == 0x90 && t.pc == 0xC003 && t.m == 4 && t.f == 0x00) = true := by decide
theorem test_LD_mnn_A :
    after { code [0xEA, 0x41, 0xFF] with a := 0x05 }
      (fun t => t.cell 0xFF41 == 0x85 && t.m == 4 && t.f == 0x00) = true := by decide
theorem test_LDH_mn_A :
    after { code [0xE0, 0x80] with a := 0x99 }
      (fun t => t.cell 0xFF80 == 0x99 && t.m == 3 && t.f == 0x00) = true := by decide
theorem test_LDH_A_mn :
    after (put (code [0xF0, 0x0F]) [(0xFF0F, 0xE1)])
      (fun t => t.a == 0xE1 && t.m == 3 && t.f == 0x00) = true := by decide
theorem test_LDH_mC_A :
    after { code [0xE2] with a := 0x42, c := 0x90 }
      (fun t => t.cell 0xFF90 == 0x42 && t.m == 2 && t.f == 0x00) = true := by decide
theorem test_LDH_A_mC :
    after { put (code [0xF2]) [(0xFFFF, 0x1F)] with c := 0xFF }
      (fun t => t.a == 0x1F && t.m == 2 && t.f == 0x00) = true := by decide
theorem test_LD_mHLinc_A :
    after { code [0x22] with a := 0x56, h := 0xFF, l := 0xFF }
      (fun t => t.cell 0xFFFF == 0x56 && t.hl == 0x0000 && t.m == 2 && t.f == 0x00) = true := by decide
theorem test_LD_A_mHLdec :
    after { code [0x3A] with h := 0x00, l := 0x00 }
      (fun t => t.a == 0x00 && t.hl == 0xFFFF && t.m == 2 && t.f == 0x00) = true := by decide
theorem test_LD_A_mHLinc :
    after { put (code [0x2A]) [(0xD0FF, 0x11)] with h := 0xD0, l := 0xFF }
      (fun t => t.a == 0x11 && t.hl == 0xD100 && t.m == 2 && t.f == 0x00) = true := by decide
theorem test_LD_mHLdec_A :
    after { code [0x32] with a := 0x05, h := 0x40, l := 0x00 }
      (fun t => t.hl == 0x3FFF && t.m == 2 && t.f == 0x00) = true := by decide
theorem test_LD_SP_nn :
    after { code [0x31, 0xFE, 0xFF] with sp := 0x0000 } (fun t => t.sp == 0xFFFE && t.m == 3) = true := by decide
theorem test_LD_HL_nn :
    after (code [0x21, 0x34, 0x12]) (fun t => t.h == 0x12 && t.l == 0x34 && t.m == 3) = true := by decide
theorem test_LD_mnn_SP :
    after { code [0x08, 0x00, 0xD1] with sp := 0xFFF8 }
      (fun t => t.cell 0xD100 == 0xF8 && t.cell 0xD101 == 0xFF && t.m == 5) = true := by decide
theorem test_LD_SP_HL :
    after { code [0xF9] with h := 0xD1, l := 0x23 } (fun t => t.sp == 0xD123 && t.m == 2) = true := by decide
theorem test_PUSH_BC :
    after { code [0xC5] with b := 0x12, c := 0x34, sp := 0xFFFE }
      (fun t => t.sp == 0xFFFC && t.cell 0xFFFD == 0x12 && t.cell 0xFFFC == 0x34 && t.m == 4) = true := by decide
theorem test_PUSH_AF :
    after { code [0xF5] with a := 0x12, f := 0xB0, sp := 0xD002 }
      (fun t => t.sp == 0xD000 && t.cell 0xD001 == 0x12 && t.cell 0xD000 == 0xB0 && t.m == 4) = true := by decide
theorem test_PUSH_DE :
    after { code [0xD5] with d := 0xAB, e := 0xCD, sp := 0x0001 }
      (fun t => t.sp == 0xFFFF && t.cell 0xFFFF == 0xCD && t.m == 4) = true := by decide
theorem test_POP_AF :
    after { put (code [0xF1]) [(0xD000, 0xFF), (0xD001, 0x12)] with sp := 0xD000 }
      (fun t => t.a == 0x12 && t.f == 0xF0 && t.sp == 0xD002 && t.m == 3) = true := by decide
theorem test_POP_HL :
    after { put (code [0xE1]) [(0xFFFC, 0x5F), (0xFFFD, 0x3C)] with sp := 0xFFFC }
      (fun t => t.hl == 0x3C5F && t.sp == 0xFFFE && t.m == 3) = true := by decide
theorem test_POP_BC :
    after { put (code [0xC1]) [(0xFFFF, 0x77)] with sp := 0xFFFF }
      (fun t => t.c == 0x77 && t.b == 0x00 && t.sp == 0x0001 && t.m == 3) = true := by decide
theorem test_LD_HL_SPe :
    after { code [0xF8, 0x02] with sp := 0xFFF8 }
      (fun t => t.hl == 0xFFFA && t.f == 0x00 && t.m == 3) = true := by decide
theorem test_JP_nn :
    after (code [0xC3, 0x50, 0x01]) (fun t => t.pc == 0x0150 && t.m == 4) = true := by decide
theorem test_JP_Z_nn :
    after { code [0xCA, 0x00, 0x80] with f := 0x80 } (fun t => t.pc == 0x8000 && t.m == 4) = true := by decide
theorem test_JP_NC_nn :
    after { code [0xD2, 0x00, 0x80] with f := 0x10 } (fun t => t.pc == 0xC003 && t.m == 3) = true := by decide
theorem test_JP_HL :
    after { code [0xE9] with h := 0xD2, l := 0x34 } (fun t => t.pc == 0xD234 && t.m == 1) = true := by decide
theorem test_JR_e :
    after (code [0x18, 0x05]) (fun t => t.pc == 0xC007 && t.m == 3) = true := by decide
theorem test_JR_NZ_e :
    after { code [0x20, 0xFA] with f := 0x00 } (fun t => t.pc == 0xBFFC && t.m == 3) = true := by decide
theorem test_JR_C_e :
    after { code [0x38, 0x10] with f := 0x10 } (fun t => t.pc == 0xC012 && t.m == 3) = true := by decide
theorem test_CALL_nn :
    after { code [0xCD, 0x34, 0x12] with sp := 0xFFFE }
      (fun t => t.pc == 0x1234 && t.sp == 0xFFFC && t.cell 0xFFFD == 0xC0 && t.cell 0xFFFC == 0x03 && t.m == 6) = true := by decide
theorem test_CALL_NZ_nn :
    after { code [0xC4, 0x34, 0x12] with f := 0x00, sp := 0xD000 }
      (fun t => t.pc == 0x1234 && t.sp == 0xCFFE && t.cell 0xCFFF == 0xC0 && t.cell 0xCFFE == 0x03 && t.m == 6) = true := by decide
theorem test_CALL_Z_nn :
    after { code [0xCC, 0x34, 0x12] with f := 0x00, sp := 0xD000 }
      (fun t => t.pc == 0xC003 && t.sp == 0xD000 && t.m == 3) = true := by decide
theorem test_RET :
    after { put (code [0xC9]) [(0xFFFC, 0x03), (0xFFFD, 0x80)] with sp := 0xFFFC }
      (fun t => t.pc == 0x8003 && t.sp == 0xFFFE && t.m == 4) = true := by decide
theorem test_RET_C :
    after { put (code [0xD8]) [(0xCFFE, 0x00), (0xCFFF, 0x80)] with f := 0x10, sp := 0xCFFE }
      (fun t => t.pc == 0x8000 && t.sp == 0xD000 && t.m == 5) = true := by decide
theorem test_RET_NC :
    after { code [0xD0] with f := 0x10, sp := 0xCFFE }
      (fun t => t.pc == 0xC001 && t.sp == 0xCFFE && t.m == 2) = true := by decide
theorem test_RETI :
    after { put (code [0xD9]) [(0xFFFC, 0x50), (0xFFFD, 0x01)] with ime := false, sp := 0xFFFC }
      (fun t => t.pc == 0x0150 && t.sp == 0xFFFE && t.ime && t.m == 4) = true := by decide
theorem test_RST_0x28 :
    after { code [0xEF] with sp := 0xDFFF }
      (fun t => t.pc == 0x0028 && t.sp == 0xDFFD && t.cell 0xDFFE == 0xC0 && t.cell 0xDFFD == 0x01 && t.m == 4) = true := by decide
theorem test_RST_0x00 :
    after { code [0xC7] with sp := 0xD000 }
      (fun t => t.pc == 0x0000 && t.sp == 0xCFFE && t.cell 0xCFFF == 0xC0 && t.cell 0xCFFE == 0x01 && t.m == 4) = true := by decide
theorem test_ADD_A_B :
    after { code [0x80] with a := 0x3A, b := 0xC6 }
      (fun t => t.a == 0x00 && t.f == 0xB0 && t.m == 1) = true := by decide
theorem test_ADD_A_A :
    after { code [0x87] with a := 0x88 } (fun t => t.a == 0x10 && t.f == 0x30 && t.m == 1) = true := by decide
theorem test_ADD_A_n :
    after { code [0xC6, 0xFF] with a := 0x3C } (fun t => t.a == 0x3B && t.f == 0x30 && t.m == 2) = true := by decide
theorem test_ADD_A_mHL :
    after { put (code [0x86]) [(0xD000, 0x12)] with a := 0x3C, h := 0xD0, l := 0x00 }
      (fun t => t.a == 0x4E && t.f == 0x00 && t.m == 2) = true := by decide
theorem test_ADC_A_B :
    after { code [0x88] with a := 0xE1, b := 0x0F, f := 0x10 }
      (fun t => t.a == 0xF1 && t.f == 0x20 && t.m == 1) = true := by decide
theorem test_ADC_A_n :
    after { code [0xCE, 0x3B] with a := 0xE1, f := 0x10 }
      (fun t => t.a == 0x1D && t.f == 0x10 && t.m == 2) = true := by decide
theorem test_SUB_A_B :
    after { code [0x90] with a := 0x3E, b := 0x3E }
      (fun t => t.a == 0x00 && t.f == 0xC0 && t.m == 1) = true := by decide
theorem test_SUB_A_n :
    after { code [0xD6, 0x0F] with a := 0x3E } (fun t => t.a == 0x2F && t.f == 0x60 && t.m == 2) = true := by decide
theorem test_SBC_A_B :
    after { code [0x98] with a := 0x3B, b := 0x2A, f := 0x10 }
      (fun t => t.a == 0x10 && t.f == 0x40 && t.m == 1) = true := by decide
theorem test_SBC_A_n :
    after { code [0xDE, 0x3A] with a := 0x3B, f := 0x10 }
      (fun t => t.a == 0x00 && t.f == 0xC0 && t.m == 2) = true := by decide
theorem test_CP_A_B :
    after { code [0xB8] with a := 0x3C, b := 0x2F }
      (fun t => t.a == 0x3C && t.f == 0x60 && t.m == 1) = true := by decide
theorem test_CP_A_n :
    after { code [0xFE, 0x40] with a := 0x3C } (fun t => t.a == 0x3C && t.f == 0x50 && t.m == 2) = true := by decide
theorem test_AND_A_B :
    after { code [0xA0] with a := 0x5A, b := 0x3F }
      (fun t => t.a == 0x1A && t.f == 0x20 && t.m == 1) = true := by decide
theorem test_AND_A_n :
    after { code [0xE6, 0x38] with a := 0x5A } (fun t => t.a == 0x18 && t.f == 0x20 && t.m == 2) = true := by decide
theorem test_XOR_A_A :
    after { code [0xAF] with a := 0x55, f := 0xF0 }
      (fun t => t.a == 0x00 && t.f == 0x80 && t.m == 1) = true := by decide
theorem test_XOR_A_n :
    after { code [0xEE, 0x0F] with a := 0xFF } (fun t => t.a == 0xF0 && t.f == 0x00 && t.m == 2) = true := by decide
theorem test_OR_A_A :
    after { code [0xB7] with a := 0x00, b := 0xFF, f := 0x70 }
      (fun t => t.a == 0x00 && t.f == 0x80 && t.m == 1) = true := by decide
theorem test_OR_A_B :
    after { code [0xB0] with a := 0x5A, b := 0x03 }
      (fun t => t.a == 0x5B && t.f == 0x00 && t.m == 1) = true := by decide
theorem test_INC_A :
    after { code [0x3C] with a := 0xFF, f := 0x10 }
      (fun t => t.a == 0x00 && t.f == 0xB0 && t.m == 1) = true := by decide
theorem test_DEC_A :
    after { code [0x3D] with a := 0x00, f := 0x10 }
      (fun t => t.a == 0xFF && t.f == 0x70 && t.m == 1) = true := by decide
theorem test_INC_mHL :
    after { put (code [0x34]) [(0xD000, 0x4F)] with h := 0xD0, l := 0x00 }
      (fun t => t.cell 0xD000 == 0x50 && t.f == 0x20 && t.m == 3) = true := by decide
theorem test_DEC_mHL :
    after { put (code [0x35]) [(0xD000, 0x00)] with h := 0xD0, l := 0x00 }
      (fun t => t.cell 0xD000 == 0xFF && t.f == 0x60 && t.m == 3) = true := by decide
theorem test_CPL :
    after { code [0x2F] with a := 0x35, f := 0x90 }
      (fun t => t.a == 0xCA && t.f == 0xF0 && t.m == 1) = true := by decide
theorem test_SCF :
    after { code [0x37] with f := 0xE0 } (fun t => t.f == 0x90 && t.m == 1) = true := by decide
theorem test_CCF :
    after { code [0x3F] with f := 0xF0 } (fun t => t.f == 0x80 && t.m == 1) = true := by decide
theorem test_DAA :
    after { code [0x27] with a := 0x45, f := 0x00 }
      (fun t => t.a == 0x45 && t.f == 0x00 && t.m == 1) = true := by decide
theorem test_ADD_HL_BC :
    after { code [0x09] with h := 0x8A, l := 0x23, b := 0x06, c := 0x05 }
      (fun t => t.hl == 0x9028 && t.f == 0x20 && t.m == 2) = true := by decide
theorem test_ADD_HL_HL :
    after { code [0x29] with h := 0x8A, l := 0x23 }
      (fun t => t.hl == 0x1446 && t.f == 0x30 && t.m == 2) = true := by decide
theorem test_ADD_HL_DE :
    after { code [0x19] with h := 0xFF, l := 0xFF, d := 0x00, e := 0x01, f := 0xC0 }
      (fun t => t.hl == 0x0000 && t.f == 0xB0 && t.m == 2) = true := by decide
theorem test_ADD_HL_SP :
    after { code [0x39] with h := 0x80, l := 0x00, sp := 0x8000 }
      (fun t => t.hl == 0x0000 && t.f == 0x10 && t.m == 2) = true := by decide
theorem test_INC_BC :
    after { code [0x03] with b := 0xFF, c := 0xFF, f := 0xF0 }
      (fun t => t.bc == 0x0000 && t.f == 0xF0 && t.m == 2) = true := by decide
theorem test_DEC_DE :
    after { code [0x1B] with d := 0x00, e := 0x00, f := 0x00 }
      (fun t => t.de == 0xFFFF && t.f == 0x00 && t.m == 2) = true := by decide
theorem test_INC_SP :
    after { code [0x33] with sp := 0xFFFF } (fun t => t.sp == 0x0000 && t.f == 0x00 && t.m == 2) = true := by decide
theorem test_DEC_HL :
    after { code [0x2B] with h := 0x10, l := 0x00 }
      (fun t => t.hl == 0x0FFF && t.f == 0x00 && t.m == 2) = true := by decide
theorem test_ADD_SP_e :
    after { code [0xE8, 0x02] with sp := 0xFFF8 }
      (fun t => t.sp == 0xFFFA && t.f == 0x00 && t.m == 4) = true := by decide
theorem test_RLCA :
    after { code [0x07] with a := 0x85 } (fun t => t.a == 0x0B && t.f == 0x10 && t.m == 1) = true := by decide
theorem test_RRCA :
    after { code [0x0F] with a := 0x3B } (fun t => t.a == 0x9D && t.f == 0x10 && t.m == 1) = true := by decide
theorem test_RLA :
    after { code [0x17] with a := 0x95, f := 0x10 }
      (fun t => t.a == 0x2B && t.f == 0x10 && t.m == 1) = true := by decide
theorem test_RRA :
    after { code [0x1F] with a := 0x81 } (fun t => t.a == 0x40 && t.f == 0x10 && t.m == 1) = true := by decide
theorem test_RLC_B :
    after { code [0xCB, 0x00] with b := 0x85 } (fun t => t.b == 0x0B && t.f == 0x10 && t.m == 2) = true := by decide
theorem test_RRC_C :
    after { code [0xCB, 0x09] with c := 0x01 } (fun t => t.c == 0x80 && t.f == 0x10 && t.m == 2) = true := by decide
theorem test_RL_A :
    after { code [0xCB, 0x17] with a := 0x80 } (fun t => t.a == 0x00 && t.f == 0x90 && t.m == 2) = true := by decide
theorem test_RL_L :
    after { code [0xCB, 0x15] with l := 0x80, f := 0x10 }
      (fun t => t.l == 0x01 && t.f == 0x10 && t.m == 2) = true := by decide
theorem test_RR_A :
    after { code [0xCB, 0x1F] with a := 0x01 } (fun t => t.a == 0x00 && t.f == 0x90 && t.m == 2) = true := by decide
theorem test_RR_D :
    after { code [0xCB, 0x1A] with d := 0x00, f := 0x10 }
      (fun t => t.d == 0x80 && t.f == 0x00 && t.m == 2) = true := by decide
theorem test_SLA_D :
    after { code [0xCB, 0x22] with d := 0x80 } (fun t => t.d == 0x00 && t.f == 0x90 && t.m == 2) = true := by decide
theorem test_SLA_E :
    after { code [0xCB, 0x23] with e := 0xFF } (fun t => t.e == 0xFE && t.f == 0x10 && t.m == 2) = true := by decide
theorem test_SRA_A :
    after { code [0xCB, 0x2F] with a := 0x8A } (fun t => t.a == 0xC5 && t.f == 0x00 && t.m == 2) = true := by decide
theorem test_SRA_B :
    after { code [0xCB, 0x28] with b := 0x01 } (fun t => t.b == 0x00 && t.f == 0x90 && t.m == 2) = true := by decide
theorem test_SRA_H :
    after { code [0xCB, 0x2C] with h := 0xFF } (fun t => t.h == 0xFF && t.f == 0x10 && t.m == 2) = true := by decide
theorem test_SWAP_A :
    after { code [0xCB, 0x37] with a := 0xF1, f := 0x10 }
      (fun t => t.a == 0x1F && t.f == 0x00 && t.m == 2) = true := by decide
theorem test_SWAP_B :
    after { code [0xCB, 0x30] with b := 0x00, f := 0x70 }
      (fun t => t.b == 0x00 && t.f == 0x80 && t.m == 2) = true := by decide
theorem test_SRL_A :
    after { code [0xCB, 0x3F] with a := 0x01 } (fun t => t.a == 0x00 && t.f == 0x90 && t.m == 2) = true := by decide
theorem test_SRL_C :
    after { code [0xCB, 0x39] with c := 0xFF } (fun t => t.c == 0x7F && t.f == 0x10 && t.m == 2) = true := by decide
theorem test_RLC_mHL :
    after { put (code [0xCB, 0x06]) [(0xD000, 0x80)] with h := 0xD0, l := 0x00 }
      (fun t => t.cell 0xD000 == 0x01 && t.f == 0x10 && t.m == 4) = true := by decide
theorem test_SWAP_mHL :
    after { put (code [0xCB, 0x36]) [(0xD000, 0xA5)] with h := 0xD0, l := 0x00 }
      (fun t => t.cell 0xD000 == 0x5A && t.f == 0x00 && t.m == 4) = true := by decide
theorem test_SRL_mHL :
    after { put (code [0xCB, 0x3E]) [(0xD000, 0x01)] with h := 0xD0, l := 0x00 }
      (fun t => t.cell 0xD000 == 0x00 && t.f == 0x90 && t.m == 4) = true := by decide
theorem test_BIT_7_A :
    after { code [0xCB, 0x7F] with a := 0x80, f := 0x10 } (fun t => t.f == 0x30 && t.m == 2) = true := by decide
theorem test_BIT_0_B :
    after { code [0xCB, 0x40] with b := 0xFE } (fun t => t.f == 0xA0 && t.m == 2) = true := by decide
theorem test_BIT_4_L :
    after { code [0xCB, 0x65] with l := 0xEF, f := 0x10 } (fun t => t.f == 0xB0 && t.m == 2) = true := by decide
theorem test_BIT_3_mHL :
    after { put (code [0xCB, 0x5E]) [(0xD000, 0x08)] with h := 0xD0, l := 0x00 }
      (fun t => t.f == 0x20 && t.m == 3) = true := by decide
theorem test_RES_0_A :
    after { code [0xCB, 0x87] with a := 0xFF, f := 0xF0 }
      (fun t => t.a == 0xFE && t.f == 0xF0 && t.m == 2) = true := by decide
theorem test_RES_7_B :
    after { code [0xCB, 0xB8] with b := 0x7F } (fun t => t.b == 0x7F && t.f == 0x00 && t.m == 2) = true := by decide
theorem test_RES_3_mHL :
    after { put (code [0xCB, 0x9E]) [(0xD000, 0xFF)] with h := 0xD0, l := 0x00 }
      (fun t => t.cell 0xD000 == 0xF7 && t.f == 0x00 && t.m == 4) = true := by decide
theorem test_SET_7_A :
    after { code [0xCB, 0xFF] with a := 0x00, f := 0xF0 }
      (fun t => t.a == 0x80 && t.f == 0xF0 && t.m == 2) = true := by decide
theorem test_SET_0_E :
    after { code [0xCB, 0xC3] with e := 0x01 } (fun t => t.e == 0x01 && t.f == 0x00 && t.m == 2) = true := by decide
theorem test_SET_4_mHL :
    after { put (code [0xCB, 0xE6]) [(0xD000, 0x00)] with h := 0xD0, l := 0x00 }
      (fun t => t.cell 0xD000 == 0x10 && t.f == 0x00 && t.m == 4) = true := by decide
theorem test_NOP : after (code [0x00]) (fun t => t.pc == 0xC001 && t.m == 1 && t.f == 0x00) = true := by decide
theorem test_DI : after { code [0xF3] with ime := true, eiCountdown := 1 }
    (fun t => !t.ime && t.eiCountdown == 0 && t.m == 1) = true := by decide
theorem test_EI : after (code [0xFB]) (fun t => !t.ime && t.eiCountdown == 1 && t.m == 1) = true := by decide
theorem test_EI_no_delay : after { code [0xFB] with params := { standardParams with eiDelay := 0 } }
    (fun t => t.ime && t.eiCountdown == 0) = true := by decide
theorem test_EI_counts_down : after { code [0x00] with eiCountdown := 1 }
    (fun t => t.ime && t.eiCountdown == 0 && t.pc == 0xC001) = true := by decide
theorem test_STOP : after (code [0x10, 0x00]) (fun t => t.stopped && t.pc == 0xC002 && t.m == 1) = true := by decide
theorem test_HALT : after (code [0x76]) (fun t => t.halted && t.pc == 0xC001 && t.m == 1) = true := by decide
theorem test_halted_idles : after { code [0x3C] with halted := true }
    (fun t => t.halted && t.pc == 0xC000 && t.a == 0x01 && t.m == 1) = true := by decide
theorem test_halted_wakes_with_dispatch_masked :
    after { put (code [0x3C]) [(0xFFFF, 0x01), (0xFF0F, 0x01)] with halted := true }
      (fun t => !t.halted && t.a == 0x02 && t.pc == 0xC001 && t.iflag == 0x01) = true := by decide
theorem test_halted_wakes : after { put (code [0x3C]) [(0xFFFF, 0x04), (0xFF0F, 0x04)] with halted := true }
    (fun t => !t.halted && t.a == 0x02 && t.pc == 0xC001 && t.iflag == 0x04) = true := by decide

/-! ### Memory and bank controllers (95_test_vectors.md S4, S5, 2.8) -/

theorem test_no_echo : reads (State.reset.memWrite 0xE000 0x42) 0xC000 0x00 = true ∧
    reads (State.reset.memWrite 0xE000 0x42) 0xE000 0x42 = true := by decide
theorem test_vbk_ignored : reads (State.reset.memWrite 0xFF4F 0x01) 0xFF4F 0x00 = true := by decide
theorem test_vram_dirty : (State.reset.memWrite 0x8000 0x01).vramDirty = true ∧
    (State.reset.memWrite 0x8000 0x01).lcdcDirty = false := by decide
theorem test_zero_write_is_canonical : (State.reset.memWrite 0xC000 0x42).memWrite 0xC000 0x00 = State.reset := by
  decide
theorem test_rom_bank_request_k : reads ((cart .mbc1 4 marked).memWrite 0x2000 0x04) 0x4000 0x01 = true ∧
    reads ((cart .mbc1 4 marked).memWrite 0x2000 0x00) 0x4000 0x01 = true ∧
    reads ((cart .mbc1 4 marked).memWrite 0x2000 0x03) 0x4000 0x03 = true := by decide
theorem test_mbc1_upper_bits : (((cart .mbc1 64 []).memWrite 0x2000 0x01).memWrite 0x4000 0x01).effRomBank = 0x21 ∧
    ((((cart .mbc1 64 []).memWrite 0x2000 0x1F).memWrite 0x4000 0x01).memWrite 0x6000 0x01).effRomBank = 0x1F := by
  decide
theorem test_mbc3_modulo : reads ((cart .mbc3 4 marked).memWrite 0x2000 0x83) 0x4000 0x03 = true := by decide
theorem test_mbc5_request_zero : reads ((cart .mbc5 4 marked).memWrite 0x3FFF 0x00) 0x4000 0x01 = true := by decide
theorem test_ram_gate : reads (cart .mbc1 4 []) 0xA000 0xFF = true ∧
    (cart .mbc1 4 []).memWrite 0xA000 0x12 = cart .mbc1 4 [] ∧
    reads (((cart .mbc1 4 []).memWrite 0x0000 0x0A).memWrite 0xA000 0x34) 0xA000 0x34 = true ∧
    ((cart .mbc1 4 []).memWrite 0x0000 0x1A).mbc.gateOpen = false := by decide
theorem test_ram_bank :
    (((((cart .mbc1 4 []).memWrite 0x0000 0x0A).memWrite 0x6000 0x01).memWrite 0x4000 0x06).memWrite 0xA000 0x56).extRam
      = [(0x4000, 0x56)] := by decide

/-! ### Faults (95_test_vectors.md 2.9) -/

theorem test_fault_opcode : after (code [0xD3])
    (fun t => t.fault == some (.unimplementedOpcode 0xC000 0xD3) && t.pc == 0xC001 && t.m == 0) = true := by decide
theorem test_fault_read : after (code [0xF0, 0x01])
    (fun t => t.fault == some (.unsupportedRegister 0xFF01) && t.pc == 0xC002 && t.a == 0x01 && t.m == 0) = true := by
  decide
theorem test_fault_pop : after { put (code [0xC1]) [(0xFF00, 0xCF)] with sp := 0xFF00 }
    (fun t => t.fault == some (.unsupportedRegister 0xFF01) && t.sp == 0xFF01 && t.b == 0x00 && t.c == 0x13 &&
      t.pc == 0xC001) = true := by decide
theorem test_fault_fetch : after { code [] with pc := 0xFF4D }
    (fun t => t.fault == some (.unsupportedRegister 0xFF4D) && t.pc == 0xFF4D) = true := by decide
theorem test_fault_second_byte : after { put (code []) [(0xFF00, 0xCB)] with pc := 0xFF00 }
    (fun t => t.fault == some (.unsupportedRegister 0xFF01) && t.pc == 0xFF01) = true := by decide
theorem test_fault_third_byte : after { put (code []) [(0xFF6E, 0xFA)] with pc := 0xFF6E }
    (fun t => t.fault == some (.unsupportedRegister 0xFF70) && t.pc == 0xFF70) = true := by decide

/-! ### Interrupts, BIOS, time (95_test_vectors.md S6, S13, 2.10) -/

/-- `INC A` at 0xC123 with IE and IF as given. -/
def pending (ie iflag : Byte) : State :=
  { put State.reset [(0xC123, 0x3C), (0xFFFF, ie), (0xFF0F, iflag)] with pc := 0xC123, ime := true }

theorem test_dispatch : after (pending 0x01 0x01)
    (fun t => t.pc == 0x0040 && t.sp == 0xFFFC && t.iflag == 0x00 && !t.ime && t.a == 0x01 && t.m == 5 &&
      t.cell 0xFFFD == 0xC1 && t.cell 0xFFFC == 0x23) = true := by decide
theorem test_only_vblank_dispatches : after (pending 0x1F 0x1E)
    (fun t => t.a == 0x02 && t.pc == 0xC124 && t.iflag == 0x1E && t.ime) = true := by decide
theorem test_no_dispatch_in_bios : after { put (inBios 0x0010) [(0xFFFF, 0x01), (0xFF0F, 0x01)] with ime := true }
    (fun t => t.pc == 0x0011 && t.iflag == 0x01 && t.ime) = true := by decide
theorem test_handoff : after { put (inBios 0x0100) [(0xFF44, 0x90), (0xFFFF, 0x01), (0xFF0F, 0x01)] with ime := true }
    (fun t => !t.inBios && t.ly == 0x00 && t.ie == 0x00 && t.iflag == 0x01 && t.pc == 0x0101) = true := by decide
theorem test_ly_vblank : after { put (code [0x00]) [(0xFF44, 143)] with lyCounter := 113 }
    (fun t => t.ly == 144 && t.iflag == 0x01 && t.vblankEvent && t.lyCounter == 0) = true := by decide
theorem test_ly_wraps : after { put (code [0x00]) [(0xFF44, 153)] with lyCounter := 113 }
    (fun t => t.ly == 0 && t.iflag == 0x00) = true := by decide
theorem test_div : after { code [0x00] with divCounter := 63 } (fun t => t.div == 0x01 && t.divCounter == 0) = true := by
  decide
theorem test_tima_reload :
    after { put (code [0xCD]) [(0xFF07, 0x05), (0xFF05, 0xFF), (0xFF06, 0xFF)] with sp := 0xD000 }
      (fun t => t.tima == 0xFF && t.iflag == 0x04 && t.timaCounter == 2) = true := by decide

/-! ### Hypotheses that can be met, statement by statement -/

/-- A state of `code bs` fetches its first instruction. -/
theorem code_fetches : (code [0x3E, 0x55]).Fetches := ⟨⟨rfl, rfl⟩, rfl, by decide, rfl⟩

theorem witness_DecodeInvertsEncode : (Instr.illegal 0xFD).wellFormed = true ∧ (Instr.ld_SP_nn 0xFFFF).wellFormed = true :=
  ⟨rfl, rfl⟩
theorem witness_EncodeInvertsDecode : decode [0x3E, 0x55, 0x00] = .ok (.ld_A_n 0x55, [0x00]) := rfl
theorem witness_FirstByteGivesLength : instrLength 0x00 = [].length (α := Byte) + 1 ∧
    instrLength 0xCB = [(0x00 : Byte)].length + 1 ∧ instrLength 0xCD = [(0x00 : Byte), 0x00].length + 1 := by decide
theorem witness_StepRunsDecodedInstruction :
    (code [0x3E, 0x55]).Fetches ∧ (Instr.ld_A_n 0x55).wellFormed = true ∧
    BytesAt (code [0x3E, 0x55]) (code [0x3E, 0x55]).pc (encode (.ld_A_n 0x55)) ∧
    ∃ t, exec (.ld_A_n 0x55) { code [0x3E, 0x55] with pc := 0xC002 } = .next t ∧ t.fault = none :=
  ⟨code_fetches, rfl, ⟨rfl, rfl, trivial⟩, _, rfl, rfl⟩
theorem witness_StepRunsDecodedInstruction_fault :
    (code [0xF0, 0x70]).Fetches ∧ BytesAt (code [0xF0, 0x70]) (code [0xF0, 0x70]).pc (encode (.ldh_A_mn 0x70)) ∧
    ∃ t, exec (.ldh_A_mn 0x70) { code [0xF0, 0x70] with pc := 0xC002 } = .next t ∧ t.fault ≠ none :=
  ⟨⟨⟨rfl, rfl⟩, rfl, by decide, rfl⟩, ⟨rfl, rfl, trivial⟩, _, rfl, by decide⟩
theorem witness_VblankDispatch :
    let s : State := { pending 0x01 0x01 with sp := 0xC002 }
    s.Running ∧ s.ime = true ∧ s.ie &&& s.iflag &&& 0x01 ≠ 0 ∧ s.inBios = false ∧
      ramAddr (s.sp - 1).toNat = true ∧ ramAddr (s.sp - 2).toNat = true ∧ s.sp - 1 ≠ 0xFF0F ∧ s.sp - 2 ≠ 0xFF0F :=
  ⟨⟨rfl, rfl⟩, rfl, by decide, rfl, by decide, by decide, by decide, by decide⟩
theorem witness_NoOtherDispatch_masked :
    let s : State := { pending 0x1E 0xFE with halted := true }
    s.Running ∧ s.inBios = false ∧ s.ie &&& s.iflag &&& 0x01 = 0 ∧ s.ie &&& s.iflag &&& 0x1E ≠ 0 ∧
      BytesAt s s.pc (encode .inc_A) ∧ ∃ t, exec .inc_A { s with halted := false, pc := 0xC124 } = .next t ∧
        t.fault = none :=
  ⟨⟨rfl, rfl⟩, rfl, by decide, by decide, ⟨rfl, trivial⟩, _, rfl, rfl⟩
theorem witness_NoOtherDispatch_bios :
    let s := inBios 0x00FF
    s.Running ∧ s.inBios = true ∧ s.pc ≠ 0x0100 ∧ s.halted = false ∧ BytesAt s s.pc (encode .nop) ∧
      ∃ t, exec .nop { s with pc := 0x0100 } = .next t ∧ t.fault = none :=
  ⟨⟨rfl, rfl⟩, rfl, by decide, rfl, ⟨rfl, trivial⟩, _, rfl, rfl⟩
theorem witness_NoOtherDispatch_halted :
    let s : State := { pending 0xE0 0xFF with halted := true }
    s.Running ∧ s.halted = true ∧ s.ie &&& s.iflag &&& 0x1F = 0 ∧ ¬(s.inBios = true ∧ s.pc = 0x0100) :=
  ⟨⟨rfl, rfl⟩, rfl, by decide, by decide⟩
theorem witness_NoOtherDispatch_wakes_masked :
    let s : State := { pending 0x01 0x01 with halted := true, ime := false }
    s.Running ∧ s.halted = true ∧ s.ie &&& s.iflag &&& 0x1F ≠ 0 ∧ ¬(s.inBios = true ∧ s.pc = 0x0100) ∧
      ¬(s.ime = true ∧ s.ie &&& s.iflag &&& 0x01 ≠ 0 ∧ s.inBios = false) ∧ BytesAt s s.pc (encode .inc_A) ∧
      ∃ t, exec .inc_A { s with halted := false, pc := 0xC124 } = .next t ∧ t.fault = none :=
  ⟨⟨rfl, rfl⟩, rfl, by decide, by decide, by decide, ⟨rfl, trivial⟩, _, rfl, rfl⟩
theorem witness_NoOtherDispatch_wakes_bios :
    let s : State := { put (inBios 0x00FF) [(0xFFFF, 0x10), (0xFF0F, 0x11)] with halted := true, ime := true }
    s.Running ∧ s.halted = true ∧ s.ie &&& s.iflag &&& 0x1F ≠ 0 ∧ ¬(s.inBios = true ∧ s.pc = 0x0100) ∧
      ¬(s.ime = true ∧ s.ie &&& s.iflag &&& 0x01 ≠ 0 ∧ s.inBios = false) ∧ BytesAt s s.pc (encode .nop) :=
  ⟨⟨rfl, rfl⟩, rfl, by decide, by decide, by decide, rfl, trivial⟩
theorem witness_BiosHandoff : (inBios 0x0100).Running ∧ (inBios 0x0100).inBios = true ∧ (inBios 0x0100).pc = 0x0100 :=
  ⟨⟨rfl, rfl⟩, rfl, rfl⟩
theorem witness_BiosFlagOnlyFalls : (∃ t, step (inBios 0x0100) = .next t) ∧ ∃ t, step (inBios 0x00FF) = .next t :=
  ⟨⟨_, rfl⟩, _, rfl⟩
theorem witness_FaultedAndStoppedHaveNoStep :
    ({ State.reset with fault := some (.unsupportedRegister 0xFF01), stopped := true } : State).fault =
      some (.unsupportedRegister 0xFF01) ∧
    ({ State.reset with stopped := true } : State).fault = none ∧
    ({ State.reset with stopped := true } : State).stopped = true := ⟨rfl, rfl, rfl⟩
theorem witness_UndefinedOpcodesFault : (code [0xFD]).Fetches ∧ (code [0xFD]).memRead (code [0xFD]).pc = .ok 0xFD ∧
    (0xFD : Byte) ∈ [0xD3, 0xDB, 0xDD, 0xE3, 0xE4, 0xEB, 0xEC, 0xED, 0xF4, 0xFC, (0xFD : Byte)] :=
  ⟨⟨⟨rfl, rfl⟩, rfl, by decide, rfl⟩, rfl, by decide⟩
theorem witness_FetchFaults_opcode :
    let s : State := { code [] with pc := 0xFF70 }
    s.Fetches ∧ s.memRead s.pc = .error (.unsupportedRegister 0xFF70) :=
  ⟨⟨⟨rfl, rfl⟩, rfl, by decide, rfl⟩, rfl⟩
theorem witness_FetchFaults_second :
    let s : State := { put (code []) [(0xFF00, 0xCB)] with pc := 0xFF00 }
    s.Fetches ∧ s.memRead s.pc = .ok 0xCB ∧ 2 ≤ instrLength 0xCB ∧
      s.memRead (s.pc + 1) = .error (.unsupportedRegister 0xFF01) :=
  ⟨⟨⟨rfl, rfl⟩, rfl, by decide, rfl⟩, rfl, by decide, rfl⟩
theorem witness_FetchFaults_third :
    let s : State := { put (code []) [(0xFF6E, 0xFA)] with pc := 0xFF6E }
    s.Fetches ∧ s.memRead s.pc = .ok 0xFA ∧ instrLength 0xFA = 3 ∧ s.memRead (s.pc + 1) = .ok 0x00 ∧
      s.memRead (s.pc + 2) = .error (.unsupportedRegister 0xFF70) :=
  ⟨⟨⟨rfl, rfl⟩, rfl, by decide, rfl⟩, rfl, rfl, rfl, rfl⟩
theorem witness_FaultsArePrecise : ∃ t, step (code [0xD3]) = .next t ∧ t.fault = some (.unimplementedOpcode 0xC000 0xD3) :=
  ⟨_, rfl, rfl⟩
theorem witness_FaultsArePrecise_pop :
    ∃ t, step { code [0xC1] with sp := 0xFF00 } = .next t ∧ t.fault = some (.unsupportedRegister 0xFF01) ∧
      t.sp = 0xFF01 := ⟨_, rfl, rfl, rfl⟩
theorem witness_ImeRisesOnlyByEiOrReti_countdown :
    after { code [0x00] with eiCountdown := 1 } (fun t => t.ime) = true := by decide
theorem witness_ImeRisesOnlyByEiOrReti_reti : (code [0xD9]).ime = false ∧ after (code [0xD9]) (fun t => t.ime) = true := by
  decide
theorem witness_ImeRisesOnlyByEiOrReti_no_delay :
    after { code [0xFB] with params := { standardParams with eiDelay := 0 } } (fun t => t.ime) = true := by decide
theorem witness_EiTakesEffectOneInstructionLater_ei : (code [0xFB]).Fetches ∧
    BytesAt (code [0xFB]) (code [0xFB]).pc (encode .ei) ∧ (code [0xFB]).params.eiDelay = 1 ∧
    (code [0xFB]).eiCountdown = 0 := ⟨⟨⟨rfl, rfl⟩, rfl, by decide, rfl⟩, ⟨rfl, trivial⟩, rfl, rfl⟩
theorem witness_EiTakesEffectOneInstructionLater_next :
    let s : State := { code [0x76] with eiCountdown := 1 }
    s.Fetches ∧ BytesAt s s.pc (encode .halt) ∧ s.params.eiDelay = 1 ∧ Instr.halt ≠ .di ∧
      ∃ t, step s = .next t ∧ t.fault = none :=
  ⟨⟨⟨rfl, rfl⟩, rfl, by decide, rfl⟩, ⟨rfl, trivial⟩, rfl, by decide, _, rfl, rfl⟩
theorem witness_EiTakesEffectOneInstructionLater_di :
    let s : State := { code [0xF3] with eiCountdown := 1 }
    s.Fetches ∧ BytesAt s s.pc (encode .di) ∧ s.params.eiDelay = 1 :=
  ⟨⟨⟨rfl, rfl⟩, rfl, by decide, rfl⟩, ⟨rfl, trivial⟩, rfl⟩
theorem witness_StepsAddTheirCost_dispatch : (pending 0x01 0x01).beginStep.dispatchable = true ∧
    ∃ t, step (pending 0x01 0x01) = .next t := ⟨rfl, _, rfl⟩
theorem witness_StepsAddTheirCost_idle :
    let s : State := { code [] with halted := true }
    s.beginStep.dispatchable = false ∧ s.beginStep.halted = true ∧ ∃ t, step s = .next t := ⟨rfl, rfl, _, rfl⟩
theorem witness_StepsAddTheirCost_instr : (code [0x3E, 0x55]).Fetches ∧
    BytesAt (code [0x3E, 0x55]) (code [0x3E, 0x55]).pc (encode (.ld_A_n 0x55)) ∧
    ∃ t, step (code [0x3E, 0x55]) = .next t ∧ t.fault = none :=
  ⟨code_fetches, ⟨rfl, rfl, trivial⟩, _, rfl, rfl⟩
theorem witness_StepsAddTheirCost_fault : ∃ t, step (code [0xD3]) = .next t ∧ t.fault ≠ none := ⟨_, rfl, by decide⟩

/-- The one memory of `pending 0xFF 0xFF` meets its invariant. -/
theorem witness_StepKeepsMemoryCanonical : (pending 0xFF 0xFF).MemInv ∧ ∃ t, step (pending 0xFF 0xFF) = .next t :=
  ⟨⟨by decide, by decide, by decide, by decide, rfl⟩, _, rfl⟩
theorem witness_StepKeepsFlagNibbleZero : State.reset.FlagInv ∧ ∃ t, step State.reset = .next t := ⟨rfl, _, rfl⟩
theorem witness_StepKeepsCountersInRange :
    let s : State := { put (code [0x00]) [(0xFF44, 153)] with lyCounter := 113, divCounter := 63, timaCounter := 255 }
    s.params.PeriodsPositive ∧ s.TimeInv ∧ ∃ t, step s = .next t :=
  ⟨⟨by decide, by decide, by decide, by decide, by decide, by decide⟩, ⟨by decide, by decide, by decide, by decide⟩,
    _, rfl⟩
theorem witness_StepKeepsBankAndEiRegisters :
    State.reset.BankInv ∧ (cart .mbc1 4 []).BankInv ∧ (cart .mbc3 4 []).BankInv ∧ (cart .mbc5 4 []).BankInv ∧
      State.reset.EiInv ∧ ∃ t, step State.reset = .next t :=
  ⟨rfl, ⟨by decide, rfl⟩, ⟨rfl, rfl⟩, ⟨rfl, rfl⟩, ⟨by decide, by decide⟩, _, rfl⟩
theorem witness_ResetSatisfiesInvariants :
    standardParams.wf ∧
    ({ standardParams with
        skipBios := false, bios := [(0xFF, 0xFF)], cartKind := .mbc5, romBanks := 2, rom := [(0x7FFF, 0xFF)],
        ramBanks := 1, ramSize := 0x2000, extRamInit := [(0x1FFF, 0xFF)], lyPeriod := 1, divPeriod := 1,
        postBiosIo := [(0xFF44, 153)] } : Params).wf := by decide
theorem witness_HostMovesKeepInvariants :
    (∃ t, State.reset.hostMove (.keypad 0xFF) = some t) ∧
    (∃ t, State.reset.hostMove (.reset standardParams) = some t) ∧
    (∀ p, HostMove.reset standardParams = .reset p → p.wf) ∧ State.reset.FlagInv :=
  ⟨⟨_, rfl⟩, ⟨_, rfl⟩, fun _ h => by cases h; decide, rfl⟩
theorem witness_ResetValues_bios : ({ standardParams with skipBios := false } : Params).skipBios = false := rfl
theorem witness_ResetValues_skip :
    let p : Params := { standardParams with postBiosIo := [(0xFF00, 0xCF), (0xFFFF, 0x01)] }
    p.skipBios = true ∧ p.postBiosIo.Pairwise (fun c d => c.1 ≠ d.1) ∧ (0xFF00, 0xCF) ∈ p.postBiosIo ∧
      ∀ c ∈ p.postBiosIo, c.1 ≠ 0xFF0F := by decide
theorem witness_RegisterPairsAlias : StackPair.HL ≠ .AF ∧ StackPair.BC ≠ .AF := by decide

/-- The external-RAM machine with its gate open. -/
def open1 : State := (cart .mbc1 4 []).memWrite 0x1FFF 0x0A

theorem witness_ReadDispatch :
    (inBios 0x0000).inBios = true ∧ ¬((inBios 0x0000).inBios = true ∧ (0x0100 : Nat) < 0x0100) ∧
    State.reset.mbc.gateOpen = false ∧ open1.mbc.gateOpen = true ∧ open1.params.ramBanks ≠ 0 ∧
    open1.effRamBank * 0x2000 + (0xBFFF - 0xA000) < open1.params.ramSize ∧
    ({ open1 with params := { open1.params with ramSize := 0x1FFF } } : State).params.ramSize ≤
      open1.effRamBank * 0x2000 + (0xBFFF - 0xA000) ∧
    isMemCell 0x8000 = true ∧ unsupportedAddrs.contains 0x8000 = false ∧ isMemCell 0xFFFF = true ∧
    unsupportedAddrs.contains 0xFFFF = false := by decide
theorem witness_WriteDispatch : plainAddr 0x8000 = true ∧ plainAddr 0x9FFF = true ∧ plainAddr 0xC000 = true ∧
    plainAddr 0xFF40 = true ∧ plainAddr 0xFF01 = true ∧ unsupportedAddrs.contains 0xFF01 = true ∧
    plainAddr 0xFFFF = true ∧ unsupportedAddrs.contains 0xFFFF = false ∧ plainAddr 0xBFFF = false ∧
    plainAddr 0xFF41 = false ∧ plainAddr 0xFF44 = false := by decide
theorem witness_BankControllerWrites : State.reset.params.cartKind = .none ∧ (cart .mbc1 4 []).params.cartKind = .mbc1 ∧
    (cart .mbc3 4 []).params.cartKind = .mbc3 ∧ (cart .mbc5 4 []).params.cartKind = .mbc5 ∧
    (0x1FFF : Word).toNat < 0x2000 ∧ 0x2000 ≤ (0x3FFF : Word).toNat ∧ 0x6000 ≤ (0x7FFF : Word).toNat := by decide
theorem witness_EffectiveRomBank_mbc1 : 2 ≤ (cart .mbc1 2 []).params.romBanks ∧ (cart .mbc1 2 []).BankInv ∧
    (cart .mbc1 2 []).mbc.mode = 0 ∧ ((cart .mbc1 2 []).memWrite 0x7FFF 0x01).mbc.mode = 1 ∧
    ((cart .mbc1 2 []).memWrite 0x7FFF 0x01).BankInv :=
  ⟨by decide, ⟨by decide, rfl⟩, rfl, rfl, by decide, rfl⟩
theorem witness_EffectiveRomBank_mbc5 :
    let s := cart .mbc5 2 []
    2 ≤ s.params.romBanks ∧ s.BankInv ∧ s.params.cartKind = .mbc5 ∧ (0x02 : Byte).toNat = s.params.romBanks ∧
      (0x01 : Byte) ≠ 0 ∧ (0x01 : Byte).toNat < s.params.romBanks := ⟨by decide, ⟨rfl, rfl⟩, rfl, rfl, by decide, by decide⟩
theorem witness_EffectiveRomBank_none : State.reset.BankInv ∧ State.reset.params.cartKind = .none ∧
    2 ≤ State.reset.params.romBanks := ⟨rfl, rfl, by decide⟩
theorem witness_ExternalRamWindow :
    (cart .mbc1 4 []).mbc.gateOpen = false ∧ State.reset.params.ramBanks = 0 ∧ open1.mbc.gateOpen = true ∧
    open1.params.ramBanks ≠ 0 ∧ open1.effRamBank * 0x2000 + ((0xBFFF : Word).toNat - 0xA000) < open1.params.ramSize ∧
    open1.params.cartKind = .mbc1 ∧ (cart .mbc3 4 []).params.cartKind = .mbc3 := by decide
theorem witness_CanonicalMemoryIsUnique : Memory.wf [(0xC000, 0x01), (0xFFFF, 0xFF)] ∧ Memory.wf [] := by decide
theorem witness_LatchFrame :
    (∃ t, exec .ld_mHL_A { State.reset with h := 0xC0 } = .next t) ∧ writesIme .ld_mHL_A = false ∧
    storeAddrs .ld_mHL_A { State.reset with h := 0xC0 } = [0xC04D] ∧ (∀ a ∈ [(0xC04D : Word)], 0x8000 ≤ a.toNat) ∧
    (∀ a ∈ [(0xC04D : Word)], a.toNat ≠ 0xFF04 ∧ a.toNat ≠ 0xFF40) ∧
    (∀ a ∈ [(0xC04D : Word)], ¬(0x8000 ≤ a.toNat ∧ a.toNat < 0xA000)) :=
  ⟨exec_answers _ _, rfl, rfl, by simp, by simp, by simp⟩
theorem witness_MemoryFrame :
    (∃ t, exec (.call_nn 0x1234) { open1 with sp := 0xC000 } = .next t) ∧
    storeAddrs (.call_nn 0x1234) { open1 with sp := 0xC000 } = [0xBFFF, 0xBFFE] ∧
    (∀ x ∈ [(0xBFFF : Word), 0xBFFE], 0x8000 ≤ x.toNat ∧ x.toNat ≠ 0xC000) ∧ (0xBFFD : Word) ∉ [(0xBFFF : Word), 0xBFFE] ∧
    (∀ x ∈ [(0xBFFF : Word), 0xBFFE], open1.extRamOffset x.toNat ≠ some 0x1FFD) :=
  ⟨exec_answers _ _, rfl, by simp, by decide, List.forall_mem_cons.2 ⟨by decide, List.forall_mem_singleton.2 (by decide)⟩⟩
theorem witness_MemoryFrame_ram : storeAddrs (.call_nn 0x1234) { open1 with sp := 0xD000 } = [0xCFFF, 0xCFFE] ∧
    ∀ x ∈ [(0xCFFF : Word), 0xCFFE], ¬(0xA000 ≤ x.toNat ∧ x.toNat < 0xC000) := ⟨rfl, by simp⟩

/-- HL at a byte of RAM, and at an unsupported register: the two cases of a statement by `ReadsThen`. -/
theorem witness_ReadsThen : ({ State.reset with h := 0xFF, l := 0xFF } : State).memRead 0xFFFF = .ok 0x00 ∧
    ({ State.reset with h := 0xFF, l := 0xFF } : State).hl = 0xFFFF ∧
    ({ State.reset with h := 0xFF, l := 0x4D } : State).hl = 0xFF4D ∧
    ({ State.reset with h := 0xFF, l := 0x4D } : State).memRead 0xFF4D = .error (.unsupportedRegister 0xFF4D) :=
  ⟨rfl, rfl, rfl, rfl⟩
/-- `CodedAs`: the parameter `CYCLES` at its default. -/
theorem witness_CodedAs : State.reset.params.cycles = [] := rfl
theorem witness_LoadPairs : ramAddr 0xFFFE = true ∧ ramAddr ((0xFFFE : Word) + 1).toNat = true ∧ ramAddr 0x8000 = true ∧
    ramAddr 0xFF01 = false := by decide
theorem witness_PushAndPop :
    let s : State := { State.reset with sp := 0xFF80 }
    ramAddr (s.sp - 1).toNat = true ∧ ramAddr (s.sp - 2).toNat = true ∧ s.memRead s.sp = .ok 0x00 ∧
      s.memRead (s.sp + 1) = .ok 0x00 ∧ s.FlagInv := ⟨rfl, rfl, rfl, rfl, rfl⟩
theorem witness_PushAndPop_faults :
    ({ State.reset with sp := 0xFF46 } : State).memRead 0xFF46 = .error (.unsupportedRegister 0xFF46) ∧
    ({ State.reset with sp := 0xFF45 } : State).memRead 0xFF45 = .ok 0x00 ∧
    ({ State.reset with sp := 0xFF45 } : State).memRead (0xFF45 + 1) = .error (.unsupportedRegister 0xFF46) :=
  ⟨rfl, rfl, rfl⟩
theorem witness_StackRoundTrips : ramAddr (State.reset.sp - 1).toNat = true ∧ ramAddr (State.reset.sp - 2).toNat = true :=
  ⟨rfl, rfl⟩
theorem witness_DecimalAddition :
    let s : State := { State.reset with a := 0x99, b := 0x99 }
    (99 : Nat) < 100 ∧ s.a.toNat = 99 / 10 * 16 + 99 % 10 ∧ (s.reg .B).toNat = 99 / 10 * 16 + 99 % 10 := by decide
theorem witness_AccumulatorRotates : (RotOp.rr = .rlc ∧ Instr.rra = .rlca) ∨ (RotOp.rr = .rrc ∧ Instr.rra = .rrca) ∨
    (RotOp.rr = .rl ∧ Instr.rra = .rla) ∨ (RotOp.rr = .rr ∧ Instr.rra = .rra) := .inr (.inr (.inr ⟨rfl, rfl⟩))
theorem witness_BitInstructions : (0 : Nat) < 8 ∧ (7 : Nat) < 8 ∧ Oct.o7.toNat = 7 := by decide
theorem witness_Returns :
    let s : State := { put State.reset [(0xC000, 0x34), (0xC001, 0x12)] with sp := 0xC000 }
    s.memRead s.sp = .ok 0x34 ∧ s.memRead (s.sp + 1) = .ok 0x12 ∧ s.cond .nz = false ∧ s.cond .z = true ∧
      s.cond .c = true := ⟨rfl, rfl, rfl, rfl, rfl⟩
theorem witness_SystemInstructions : State.reset.params.eiDelay = 1 ∧
    ({ State.reset with params := { standardParams with eiDelay := 0 } } : State).params.eiDelay = 0 := by decide
theorem witness_ScanlineCounter : 0 < State.reset.params.lyPeriod ∧
    State.reset.lyCounter + 113 < State.reset.params.lyPeriod ∧
    State.reset.params.lyPeriod ≤ State.reset.lyCounter + 114 := by decide
theorem witness_DividerCounter : 0 < State.reset.params.divPeriod ∧
    State.reset.divCounter + 63 < State.reset.params.divPeriod ∧
    State.reset.params.divPeriod ≤ State.reset.divCounter + 64 := by decide
theorem witness_TimerCounter :
    let s := put State.reset [(0xFF07, 0x05), (0xFF05, 0xFF)]
    State.reset.tac.getLsbD 2 = false ∧ s.tac.getLsbD 2 = true ∧ s.tac.toNat % 4 = 1 ∧ 0 < s.timaPeriod ∧
      s.timaCounter + 3 < s.timaPeriod ∧ s.timaPeriod ≤ s.timaCounter + 4 ∧ s.tima = 0xFF ∧
      State.reset.tima ≠ 0xFF := by decide
theorem witness_HostMoves : ({ State.reset with vblankEvent := true } : State).vblankEvent = true ∧
    State.reset.vblankEvent = false := ⟨rfl, rfl⟩
theorem witness_FrameLoop :
    State.reset.Running ∧ some (0x0100 : Word) = some State.reset.pc ∧ (none : Option Word) ≠ some State.reset.pc ∧
    (∃ t, step State.reset = .next t ∧ t.vblankEvent = false) ∧
    (∃ t, step { put (code [0x00]) [(0xFF44, 143)] with lyCounter := 113 } = .next t ∧ t.vblankEvent = true) ∧
    ({ State.reset with stopped := true } : State).stopped = true :=
  ⟨⟨rfl, rfl⟩, rfl, by decide, ⟨_, rfl, rfl⟩, ⟨_, rfl, rfl⟩, rfl⟩

end Sys2Proof.Tests
end

/-! PROOFS of the statements about the state (spec/10_state.md): the canonical memory, the invariants of a step, the
frames of all instructions, the reset values and the register pairs. -/

namespace Sys2Proof
open Sys2Proof.Machine

/-! ### The canonical form (10_state.md R31) -/

/-- In a canonical memory the entries are exactly the addresses that do not read as unlisted, with their bytes. -/
theorem Memory.mem_iff_get {m : Memory} (h : Memory.wf m) (c : Host.Cell) :
    c ∈ m ↔ Memory.get m c.1 = c.2 ∧ c.2 ≠ Memory.unlisted := by
  obtain ⟨hs, hv⟩ := h
  induction m with
  | nil => simp [eq_comm]
  | cons d rest ih =>
    obtain ⟨hd, hrest⟩ := List.pairwise_cons.1 hs
    have ih := ih hrest fun e he => hv e (List.mem_cons_of_mem d he)
    rw [Memory.get_cons, List.mem_cons]
    by_cases hk : d.1 = c.1
    · have hc : c ∉ rest := fun hc => absurd (hd c hc) (by omega)
      rw [if_pos hk]
      constructor
      · rintro (rfl | hc')
        · exact ⟨rfl, hv _ (by simp)⟩
        · exact absurd hc' hc
      · exact fun ⟨he, _⟩ => .inl (Prod.ext hk.symm he.symm)
    · have hc : c ≠ d := fun e => hk (e ▸ rfl)
      rw [if_neg hk, ← ih, or_iff_right hc]

/-- Settles O30: a canonical memory is a strictly sorted list, and its entries are determined by what it reads. -/
theorem canonicalMemoryIsUnique : Obligations.CanonicalMemoryIsUnique := by
  intro m n hm hn hget
  have : Std.Irrefl fun c d : Host.Cell => c.1 < d.1 := ⟨fun c => Nat.lt_irrefl c.1⟩
  have : Std.Antisymm fun c d : Host.Cell => c.1 < d.1 := ⟨fun _ _ h h' => absurd h (Nat.lt_asymm h')⟩
  refine List.Pairwise.eq_of_mem_iff hm.1 hn.1 fun c => ?_
  rw [Memory.mem_iff_get hm, Memory.mem_iff_get hn, hget]

/-! ### Memory filled cell by cell -/

/-- After a list of writes an address reads as before or as one of the bytes written there. -/
theorem Memory.get_foldl_set {cells : List Host.Cell} {m : Memory} {a : Nat} {Q : Byte → Prop}
    (hm : Q (Memory.get m a)) (hc : ∀ c ∈ cells, c.1 = a → Q c.2) :
    Q (Memory.get (List.foldl (fun m c => Memory.set m c.1 c.2) m cells) a) := by
  induction cells generalizing m with
  | nil => exact hm
  | cons c rest ih =>
    refine ih ?_ fun d hd => hc d (List.mem_cons_of_mem c hd)
    rw [Memory.get_set]
    split
    · next ha => exact hc c (by simp) ha.symm
    · exact hm

/-- A list of writes to distinct addresses reads back. -/
theorem Memory.get_foldl_set_of_distinct {cells : List Host.Cell} (hd : cells.Pairwise fun c d => c.1 ≠ d.1)
    {c : Host.Cell} (hc : c ∈ cells) (m : Memory) :
    Memory.get (List.foldl (fun m c => Memory.set m c.1 c.2) m cells) c.1 = c.2 := by
  induction cells generalizing m with
  | nil => cases hc
  | cons d rest ih =>
    obtain ⟨hne, hrest⟩ := List.pairwise_cons.1 hd
    rcases List.mem_cons.1 hc with rfl | hc
    · rw [List.foldl_cons]
      exact Memory.get_foldl_set (Q := (· = c.2)) (Memory.get_set_same m c.1 c.2)
        fun e he h => absurd h.symm (hne e he)
    · exact ih hrest hc _

namespace Machine

/-! ### Storage: what an instruction changes only by a store, or never -/

/-- `t` has the memories, the bank registers, the time and the parameters of `s`. -/
structure SameStorage (s t : State) : Prop where
  mem : t.mem = s.mem
  mbc : t.mbc = s.mbc
  extRam : t.extRam = s.extRam
  inBios : t.inBios = s.inBios
  m : t.m = s.m
  lyCounter : t.lyCounter = s.lyCounter
  divCounter : t.divCounter = s.divCounter
  timaCounter : t.timaCounter = s.timaCounter
  vramDirty : t.vramDirty = s.vramDirty
  lcdcDirty : t.lcdcDirty = s.lcdcDirty
  vblankEvent : t.vblankEvent = s.vblankEvent
  params : t.params = s.params

theorem SameStorage.memRead {s t : State} (h : SameStorage s t) (a : Word) : t.memRead a = s.memRead a :=
  State.memRead_congr h.mem h.mbc h.extRam h.inBios h.params a

theorem SameStorage.cell {s t : State} (h : SameStorage s t) (a : Nat) : t.cell a = s.cell a :=
  congrArg (Memory.get · a) h.mem

theorem SameStorage.setReg (s : State) (r : Reg8) (v : Byte) : SameStorage s (s.setReg r v) := by
  constructor <;> simp

/-- A property of the storage is kept by an instruction when the instruction's stores keep it. -/
theorem keeps_of_sameStorage {i : Instr} {s0 : State} {P : State → Prop}
    (congr : ∀ {s t}, SameStorage s t → P s → P t)
    (store : ∀ s a v, a ∈ storeAddrs i s0 → P s → P (s.memWrite a v)) : Keeps i s0 P where
  reg s r v _ := congr (.setReg s r v)
  flags _ _ _ _ _ _ := congr (by constructor <;> rfl)
  popF _ _ _ := congr (by constructor <;> rfl)
  sp _ _ _ := congr (by constructor <;> rfl)
  pc _ _ _ := congr (by constructor <;> rfl)
  store := store
  raise _ _ := congr (by constructor <;> rfl)
  ime _ _ _ := congr (by constructor <;> rfl)
  ei _ _ _ _ := congr (by constructor <;> rfl)
  halt _ _ := congr (by constructor <;> rfl)
  stop _ _ := congr (by constructor <;> rfl)

/-- A component `g` of the storage that the stores of `i` leave is left by `i`. -/
theorem exec_storage {α : Type} (g : State → α) {i : Instr} {s t : State} (h : exec i s = .next t)
    (congr : ∀ {s t}, SameStorage s t → g t = g s)
    (store : ∀ u a v, a ∈ storeAddrs i s → g (State.memWrite u a v) = g u) : g t = g s :=
  exec_keeps (P := fun u => g u = g s)
    (keeps_of_sameStorage (fun hs hP => (congr hs).trans hP) fun u a v ha hP => (store u a v ha).trans hP) rfl h

theorem exec_inBios {i : Instr} {s t : State} (h : exec i s = .next t) : t.inBios = s.inBios :=
  exec_storage State.inBios h SameStorage.inBios fun u a v _ => u.memWrite_inBios a v

theorem exec_params {i : Instr} {s t : State} (h : exec i s = .next t) : t.params = s.params :=
  exec_storage State.params h SameStorage.params fun u a v _ => u.memWrite_params a v

/-! ### Latches: what DI, EI, RETI, HALT and STOP write -/

/-- `t` has the latches and the parameters of `s`. -/
structure SameLatches (s t : State) : Prop where
  ime : t.ime = s.ime
  eiCountdown : t.eiCountdown = s.eiCountdown
  halted : t.halted = s.halted
  stopped : t.stopped = s.stopped
  params : t.params = s.params

/-- A property of the latches is kept by an instruction when the instruction's writes of a latch keep it. -/
theorem keeps_of_sameLatches {i : Instr} {s0 : State} {P : State → Prop}
    (congr : ∀ {s t}, SameLatches s t → P s → P t)
    (ime : ∀ (s : State) (b : Bool), writesIme i = true → P s → P { s with ime := b })
    (ei : ∀ (s : State) (k : Nat), writesIme i = true → (k = 0 ∨ (k = 2 ∧ s.params.eiDelay ≠ 0)) → P s →
      P { s with eiCountdown := k })
    (halt : ∀ s : State, i = .halt → P s → P { s with halted := true })
    (stop : ∀ s : State, (∃ n, i = .stop n) → P s → P { s with stopped := true }) : Keeps i s0 P where
  reg _ _ _ _ := congr (by constructor <;> simp)
  flags _ _ _ _ _ _ := congr (by constructor <;> rfl)
  popF _ _ _ := congr (by constructor <;> rfl)
  sp _ _ _ := congr (by constructor <;> rfl)
  pc _ _ _ := congr (by constructor <;> rfl)
  store _ _ _ _ := congr (by constructor <;> simp)
  raise _ _ := congr (by constructor <;> rfl)
  ime := ime
  ei := ei
  halt := halt
  stop := stop

/-! ### Invariants of the storage -/

/-- `P` speaks of the storage alone and is closed under the updates of it that a step may make. -/
structure StorageInv (P : State → Prop) : Prop where
  congr : ∀ {s t}, SameStorage s t → P s → P t
  inBios : ∀ (s : State) b, P s → P { s with inBios := b }
  store : ∀ s a v, P s → P (State.memWrite s a v)
  ie : ∀ s v, P s → P (State.setCell s ieAddr v)
  tick : TickKeeps P

/-- Such a property is an invariant of the machine. -/
theorem step_keeps_storageInv {P : State → Prop} (hP : StorageInv P) {s t : State} (h : step s = .next t)
    (h0 : P s) : P t := by
  refine step_keeps h h0 ?handoff ?wake ?dispatch ?pc ?raise ?instr ?countEi (tick_keeps hP.tick)
  case handoff =>
    intro s hs
    exact hP.inBios _ false (hP.ie _ 0 (hP.tick.ly s 0 (by decide) hs))
  case dispatch =>
    intro s hs
    rw [State.dispatch_eq]
    exact hP.congr (by constructor <;> rfl)
      (hP.store _ (s.sp - 2) (loByte s.pc) (hP.store _ (s.sp - 1) (hiByte s.pc) (hP.tick.cell s _ _ (.inl rfl) hs)))
  case instr =>
    intro i s t hs he
    exact exec_keeps (keeps_of_sameStorage hP.congr fun u a v _ => hP.store u a v) hs he
  case countEi =>
    intro s hs
    rw [State.countEi_eq]
    exact hP.congr (by constructor <;> rfl) hs
  case wake => exact fun s => hP.congr (by constructor <;> rfl)
  case pc => exact fun s v => hP.congr (by constructor <;> rfl)
  case raise => exact fun s r => hP.congr (by constructor <;> rfl)

/-! ### The memories -/

/-- The memory invariant is kept by every update of the storage (10_state.md R31, R35). -/
theorem storageInv_memInv : StorageInv State.MemInv where
  congr hs h := memInv_congr h hs.mem hs.extRam hs.params
  inBios _ _ h := memInv_congr h rfl rfl rfl
  store _ _ _ := memInv_memWrite
  ie _ _ h := memInv_setCell h (by decide) (by decide)
  tick :=
    { cell := by rintro s a v (rfl | rfl | rfl) h <;> exact memInv_setCell h (by decide) (by decide)
      ly := fun _ _ _ h => memInv_setCell h (by decide) (by decide)
      event := fun _ h => memInv_congr h rfl rfl rfl
      m := fun _ _ h => memInv_congr h rfl rfl rfl
      lyCounter := fun _ _ h => memInv_congr h rfl rfl rfl
      divCounter := fun _ _ h => memInv_congr h rfl rfl rfl
      timaCounter := fun _ _ h => memInv_congr h rfl rfl rfl }

/-- Settles O17: the memory invariant is one of the storage, and every store and every cell a tick, a dispatch or the
handoff writes keeps it. -/
theorem stepKeepsMemoryCanonical : Obligations.StepKeepsMemoryCanonical :=
  fun _ _ h hstep => step_keeps_storageInv storageInv_memInv hstep h

/-! ### The sub-counters (R38, R41) -/

/-- `TimeInv` depends on LY, the sub-counters and the parameters alone. -/
theorem timeInv_congr {s t : State} (h : s.TimeInv) (hy : t.ly = s.ly) (hl : t.lyCounter = s.lyCounter)
    (hd : t.divCounter = s.divCounter) (ht : t.timaCounter = s.timaCounter) (hp : t.params = s.params) :
    t.TimeInv :=
  ⟨hy ▸ h.ly, hl ▸ hp ▸ h.lyCounter, hd ▸ hp ▸ h.divCounter, ht ▸ hp ▸ h.timaCounter⟩

theorem timeInv_setCell {s : State} (h : s.TimeInv) {a : Nat} (ha : a ≠ lyAddr) (v : Byte) :
    (s.setCell a v).TimeInv :=
  timeInv_congr h (State.cell_setCell_other s ha.symm v) rfl rfl rfl rfl

theorem timeInv_setLy {s : State} (h : s.TimeInv) {v : Byte} (hv : v.toNat < lyLines) :
    (s.setCell lyAddr v).TimeInv where
  ly := by
    rw [State.ly, State.cell_setCell_same]
    exact Nat.le_of_lt_succ hv
  lyCounter := h.lyCounter
  divCounter := h.divCounter
  timaCounter := h.timaCounter

/-- A store leaves the sub-counters and LY, or is the one to DIV and clears its sub-counter (20_memory.md R60). -/
theorem timeInv_memWrite {s : State} (h : s.TimeInv) (a : Word) (v : Byte) : (s.memWrite a v).TimeInv where
  ly := (s.ly_memWrite a v).symm ▸ h.ly
  lyCounter := by simpa using h.lyCounter
  divCounter := by
    have hd := h.divCounter
    rw [State.divCounter_memWrite, State.memWrite_params]
    split <;> omega
  timaCounter := by simpa using h.timaCounter

/-- The selected timer period is positive and no longer than the longest. -/
theorem timaPeriod_bounds {s : State} (h : s.params.PeriodsPositive) :
    0 < s.timaPeriod ∧ s.timaPeriod ≤ maxTimaPeriod s.params.timaPeriod := by
  obtain ⟨_, _, h0, h1, h2, h3⟩ := h
  unfold State.timaPeriod maxTimaPeriod
  split <;> omega

/-- LY and the sub-counters stay in range under every update of the storage, the periods being positive. -/
theorem storageInv_timeInv : StorageInv fun s => s.params.PeriodsPositive ∧ s.TimeInv where
  congr hs h := ⟨hs.params ▸ h.1,
    timeInv_congr h.2 (hs.cell lyAddr) hs.lyCounter hs.divCounter hs.timaCounter hs.params⟩
  inBios _ _ h := ⟨h.1, timeInv_congr h.2 rfl rfl rfl rfl rfl⟩
  store s a v h := ⟨(s.memWrite_params a v).symm ▸ h.1, timeInv_memWrite h.2 a v⟩
  ie _ v h := ⟨h.1, timeInv_setCell h.2 (by decide) v⟩
  tick :=
    { cell := by rintro s a v (rfl | rfl | rfl) h <;> exact ⟨h.1, timeInv_setCell h.2 (by decide) v⟩
      ly := fun _ _ hv h => ⟨h.1, timeInv_setLy h.2 hv⟩
      event := fun _ h => ⟨h.1, timeInv_congr h.2 rfl rfl rfl rfl rfl⟩
      m := fun _ _ h => ⟨h.1, timeInv_congr h.2 rfl rfl rfl rfl rfl⟩
      lyCounter := fun _ k h => ⟨h.1, { h.2 with lyCounter := Nat.mod_lt k h.1.1 }⟩
      divCounter := fun _ k h => ⟨h.1, { h.2 with divCounter := Nat.mod_lt k h.1.2.1 }⟩
      timaCounter := fun _ k h => ⟨h.1, { h.2 with
        timaCounter := (Nat.mod_lt k (timaPeriod_bounds h.1).1).trans_le (timaPeriod_bounds h.1).2 }⟩ }

/-- Settles O19: each sub-counter is written as a remainder of its period, LY below 154. -/
theorem stepKeepsCountersInRange : Obligations.StepKeepsCountersInRange :=
  fun _ _ hp h hstep => (step_keeps_storageInv storageInv_timeInv hstep ⟨hp, h⟩).2

/-! ### The bank registers and the EI countdown (R27, R34) -/

theorem bankInv_congr {s t : State} (h : s.BankInv) (hb : t.mbc = s.mbc) (hp : t.params = s.params) :
    t.BankInv := by
  unfold State.BankInv at h ⊢
  rwa [hb, hp]

/-- A controller writes only values its kind can hold (20_memory.md R70, R71, R76, R77). -/
theorem bankInv_mbcControl {s : State} (h : s.BankInv) (a : Nat) (v : Byte) : (s.mbcControl a v).BankInv := by
  have hv : (v &&& 0x1F).toNat < 32 := by
    rw [BitVec.toNat_and]
    exact Nat.lt_succ_of_le Nat.and_le_right
  unfold State.mbcControl
  cases hk : s.params.cartKind with
  | none => exact h
  | mbc1 =>
    obtain ⟨hlo, hram⟩ : s.mbc.bankLo.toNat < 32 ∧ s.mbc.ramBankReg = 0 := by
      simpa only [State.BankInv, hk] using h
    dsimp only
    repeat' split
    all_goals simp only [State.BankInv, hk, hlo, hram, hv, and_self]
  | mbc3 | mbc5 =>
    obtain ⟨hhi, hmode⟩ : s.mbc.bankHi = 0 ∧ s.mbc.mode = 0 := by simpa only [State.BankInv, hk] using h
    dsimp only
    repeat' split
    all_goals simp only [State.BankInv, hk, hhi, hmode, and_self]

theorem bankInv_memWrite {s : State} (h : s.BankInv) (a : Word) (v : Byte) : (s.memWrite a v).BankInv := by
  by_cases ha : 0x8000 ≤ a.toNat
  · exact bankInv_congr h (s.mbc_memWrite ha v) (s.memWrite_params a v)
  · have hc : s.memWrite a v = s.mbcControl a.toNat v := if_pos (by omega)
    exact hc ▸ bankInv_mbcControl h a.toNat v

theorem storageInv_bankInv : StorageInv State.BankInv where
  congr hs h := bankInv_congr h hs.mbc hs.params
  inBios _ _ h := h
  store _ a v h := bankInv_memWrite h a v
  ie _ _ h := h
  tick :=
    { cell := fun _ _ _ _ h => h
      ly := fun _ _ _ h => h
      event := fun _ h => h
      m := fun _ _ h => h
      lyCounter := fun _ _ h => h
      divCounter := fun _ _ h => h
      timaCounter := fun _ _ h => h }

theorem eiInv_congr {s t : State} (h : s.EiInv) (he : t.eiCountdown = s.eiCountdown) (hp : t.params = s.params) :
    t.EiInv := by
  unfold State.EiInv at h ⊢
  rwa [he, hp]

/-- An instruction writes the EI countdown as 0, or as 2 when `EI_DELAY` is not 0. -/
theorem exec_keeps_eiInv {i : Instr} {s t : State} (h : s.EiInv) (he : exec i s = .next t) : t.EiInv := by
  refine exec_keeps (keeps_of_sameLatches (fun hs h => eiInv_congr h hs.eiCountdown hs.params)
    (fun _ _ _ h => h) ?ei (fun _ _ h => h) (fun _ _ h => h)) h he
  rintro s k _ (rfl | ⟨rfl, hd⟩) _
  · exact ⟨Nat.zero_le 2, fun _ => rfl⟩
  · exact ⟨Nat.le_refl 2, fun h0 => absurd h0 hd⟩

theorem eiInv_countEi {s : State} (h : s.EiInv) : s.countEi.EiInv := by
  rw [State.countEi_eq]
  exact ⟨by have := h.1; simp only; omega, fun hd => by have := h.2 hd; simp only; omega⟩

theorem step_keeps_eiInv {s t : State} (hstep : step s = .next t) (h : s.EiInv) : t.EiInv :=
  step_keeps hstep h
    (handoff := fun _ h => h)
    (wake := fun _ h => h)
    (dispatch := fun s h => by
      rw [State.dispatch_eq]
      exact ⟨Nat.zero_le 2, fun _ => rfl⟩)
    (pc := fun _ _ h => h)
    (raise := fun _ _ h => h)
    (instr := fun _ _ _ => exec_keeps_eiInv)
    (countEi := fun _ => eiInv_countEi)
    (tick := fun _ _ h => eiInv_congr h (by simp) (by simp))

/-- Settles O20: the bank invariant is one of the storage; the EI countdown is written by DI, EI, RETI, a dispatch and
step 6 alone. -/
theorem stepKeepsBankAndEiRegisters : Obligations.StepKeepsBankAndEiRegisters :=
  fun _ _ hstep => ⟨step_keeps_storageInv storageInv_bankInv hstep, step_keeps_eiInv hstep⟩

/-! ### The flags byte (R22) -/

theorem flagInv_congr {s t : State} (h : s.FlagInv) (hf : t.f = s.f) : t.FlagInv := by
  unfold State.FlagInv at h ⊢
  rwa [hf]

/-- Flag writes keep the low nibble of F, and POP AF writes it as zero. -/
theorem exec_keeps_flagInv {i : Instr} {s t : State} (h : s.FlagInv) (he : exec i s = .next t) : t.FlagInv := by
  refine exec_keeps ?_ h he
  exact
    { reg := fun _ _ _ _ h => flagInv_congr h (by simp)
      flags := fun s z n h c _ hf => (flagsByte_low s.f z n h c).trans hf
      popF := fun _ b _ _ => (BitVec.and_assoc b 0xF0 0x0F).trans BitVec.and_zero
      sp := fun _ _ _ h => h
      pc := fun _ _ _ h => h
      store := fun _ _ _ _ h => flagInv_congr h (by simp)
      raise := fun _ _ h => h
      ime := fun _ _ _ h => h
      ei := fun _ _ _ _ h => h
      halt := fun _ _ h => h
      stop := fun _ _ h => h }

/-- Settles O18: only instructions write F, and each leaves the low nibble or clears it. -/
theorem stepKeepsFlagNibbleZero : Obligations.StepKeepsFlagNibbleZero :=
  fun _ _ h hstep => step_keeps hstep h
    (handoff := fun _ h => h)
    (wake := fun _ h => h)
    (dispatch := fun s h => flagInv_congr h (by simp [State.dispatch]))
    (pc := fun _ _ h => h)
    (raise := fun _ _ h => h)
    (instr := fun _ _ _ => exec_keeps_flagInv)
    (countEi := fun s h => flagInv_congr h (by rw [State.countEi_eq]))
    (tick := fun _ _ h => flagInv_congr h (by simp))

/-! ### The first byte of a decoded instruction (30_encoding.md R103, R112 to R116) -/

theorem opcodeKey_decodeX0 {y z : Nat} (hy : y < 8) (hz : z < 8) (b1 b2 : Byte) :
    opcodeKey (decodeX0 y z b1 b2) = 8 * y + z := by
  interval_cases z <;> interval_cases y <;> rfl

theorem opcodeKey_decodeX1 : ∀ y < 8, ∀ z < 8, opcodeKey (decodeX1 y z) = 64 + 8 * y + z := by decide

theorem opcodeKey_decodeX2 : ∀ y < 8, ∀ z < 8, opcodeKey (decodeX2 y z) = 128 + 8 * y + z := by decide

theorem opcodeKey_illegal {op : Byte} (h : op ≠ cbByte) : opcodeKey (.illegal op) = op.toNat := if_neg h

theorem opcodeKey_decodeX3 {op : Byte} {y z : Nat} (hy : y < 8) (hz : z < 8) (hop : op.toNat = 192 + 8 * y + z)
    (hcb : op ≠ cbByte) (b1 b2 : Byte) : opcodeKey (decodeX3 op y z b1 b2) = op.toNat := by
  have hill := opcodeKey_illegal hcb
  rw [hop] at hill ⊢
  -- An undefined selection is `illegal op`; every other one has its first byte written in the encoder.
  interval_cases z <;> interval_cases y <;> first | exact hill | rfl

theorem opcodeKey_decodeMain {op : Byte} (h : op ≠ cbByte) (b1 b2 : Byte) :
    opcodeKey (decodeMain op b1 b2) = op.toNat := by
  have hlt := op.isLt
  have hy : op.toNat / 8 % 8 < 8 := Nat.mod_lt _ (by decide)
  have hz : op.toNat % 8 < 8 := Nat.mod_lt _ (by decide)
  obtain hx | hx | hx | hx : op.toNat / 64 = 0 ∨ op.toNat / 64 = 1 ∨ op.toNat / 64 = 2 ∨ op.toNat / 64 = 3 := by
    omega
  all_goals simp only [decodeMain, hx]
  · rw [opcodeKey_decodeX0 hy hz]; omega
  · rw [opcodeKey_decodeX1 _ hy _ hz]; omega
  · rw [opcodeKey_decodeX2 _ hy _ hz]; omega
  · exact opcodeKey_decodeX3 hy hz (by omega) h b1 b2

theorem le_opcodeKey_decodeCb : ∀ op2 : Byte, 0x100 ≤ opcodeKey (decodeCb op2) := by decide

/-- An instruction of the first opcode map was decoded from the first byte that is its key. -/
theorem opcodeKey_of_decode {op : Byte} {bs rest : List Byte} {i : Instr} (h : decode (op :: bs) = .ok (i, rest))
    (hk : opcodeKey i < 0x100) : op.toNat = opcodeKey i := by
  simp only [decode] at h
  split at h
  · split at h <;> cases h
    exact absurd hk (Nat.not_lt.2 (le_opcodeKey_decodeCb _))
  · next hcb => split at h <;> cases h <;> exact (opcodeKey_decodeMain hcb _ _).symm

/-- The byte at PC is the key of a fetched instruction of the first opcode map. -/
theorem memRead_of_fetchDecode {s u : State} {i : Instr} (h : s.fetchDecode = .instr i u)
    (hk : opcodeKey i < 0x100) : s.memRead s.pc = .ok (BitVec.ofNat 8 (opcodeKey i)) := by
  obtain ⟨bs, rest, hd, -, hat, -, -⟩ := fetchDecode_instr h
  cases bs with
  | nil => cases hd
  | cons op more =>
    rw [hat.1, ← opcodeKey_of_decode hd hk, BitVec.ofNat_toNat, BitVec.setWidth_eq]

/-! ### The steps of the machine and IME (10_state.md R26, R27) -/

theorem State.beginStep_pc (s : State) : s.beginStep.pc = s.pc := by rw [State.beginStep_eq]

/-- An instruction other than DI, EI and RETI leaves IME and the EI countdown. -/
theorem exec_ime_frame {i : Instr} {s t : State} (h : exec i s = .next t) (hi : writesIme i = false) :
    t.ime = s.ime ∧ t.eiCountdown = s.eiCountdown := by
  have hno : ¬writesIme i = true := by rw [hi]; exact Bool.false_ne_true
  exact exec_keeps (P := fun u => u.ime = s.ime ∧ u.eiCountdown = s.eiCountdown)
    (keeps_of_sameLatches (fun hs h => ⟨hs.ime.trans h.1, hs.eiCountdown.trans h.2⟩)
      (fun _ _ hw => absurd hw hno) (fun _ _ hw => absurd hw hno) (fun _ _ h => h) (fun _ _ h => h)) ⟨rfl, rfl⟩ h

/-- With IME clear, an instruction that leaves IME set or the EI countdown at 1 found the countdown at 1, or is RETI,
or is EI without a delay. -/
theorem exec_ime_rises {i : Instr} {s t : State} (h : exec i s = .next t) (hs : s.ime = false)
    (ht : t.ime = true ∨ t.eiCountdown = 1) :
    s.eiCountdown = 1 ∨ i = .reti ∨ (i = .ei ∧ s.params.eiDelay = 0) := by
  by_cases hi : writesIme i = true
  · unfold writesIme at hi
    split at hi
    · cases h
      simp at ht
    · change execEi s = .next t at h
      unfold execEi at h
      split at h
      · next hd => exact .inr (.inr ⟨rfl, hd⟩)
      split at h
      · cases h
        simp [hs] at ht
      · cases h
        exact .inl (by simpa [hs] using ht)
    · exact .inr (.inl rfl)
    · cases hi
  · obtain ⟨h1, h2⟩ := exec_ime_frame h (Bool.eq_false_iff.2 hi)
    rw [h1, h2, hs] at ht
    exact .inl (ht.resolve_left Bool.false_ne_true)

/-- Steps 6 and 7 set IME only where it is set, or the EI countdown runs out. -/
theorem State.endStep_ime {s : State} {n : Nat} (h : (s.endStep n).ime = true) :
    s.ime = true ∨ s.eiCountdown = 1 := by
  unfold State.endStep at h
  split at h
  · exact .inl h
  · rw [State.tick_ime, State.countEi_eq] at h
    simpa using h

/-- Settles O14: a dispatch clears IME, an idle step and a fetch fault leave it, and an instruction sets it only as
`exec_ime_rises` says. -/
theorem imeRisesOnlyByEiOrReti : Obligations.ImeRisesOnlyByEiOrReti := by
  intro s t hstep hs ht
  have hb : s.beginStep.ime = false := by rw [State.beginStep_eq]; exact hs
  cases step_cases hstep with
  | dispatch _ h => rw [h, State.tick_ime, State.dispatch_eq] at ht; cases ht
  | idle _ _ h => rw [h, State.tick_ime, hb] at ht; cases ht
  | fetchFault _ _ h =>
    obtain ⟨j, _, r, _, rfl⟩ := fetchDecode_raised h
    cases hb.symm.trans ht
  | instr i u v _ _ hf he h =>
    obtain ⟨bs, rest, -, -, -, -, hu⟩ := fetchDecode_instr hf
    have hread : opcodeKey i < 0x100 → s.beginStep.memRead s.pc = .ok (BitVec.ofNat 8 (opcodeKey i)) := by
      rw [← State.beginStep_pc]; exact memRead_of_fetchDecode hf
    have hrise := exec_ime_rises he (by rw [hu]; exact hb) (State.endStep_ime (h ▸ ht))
    rw [hu, State.beginStep_eq] at hrise
    obtain hc | rfl | ⟨rfl, hd⟩ := hrise
    · exact .inl hc
    · exact .inr (.inl (hread (by decide)))
    · exact .inr (.inr ⟨hread (by decide), hd⟩)

/-- Steps 1 and 2 end the BIOS exactly at 0x0100. -/
theorem State.beginStep_inBios (s : State) : s.beginStep.inBios = true ↔ s.inBios = true ∧ s.pc ≠ 0x0100 := by
  have hw : s.beginStep.inBios = s.handoffIfDue.inBios := by
    unfold State.beginStep State.wakeIfDue
    split <;> rfl
  rw [hw]
  unfold State.handoffIfDue
  split
  · next h => simp [State.handoff, h.2]
  · next h => exact ⟨fun hi => ⟨hi, fun hp => h ⟨hi, hp⟩⟩, And.left⟩

/-- Steps 3 to 7 change neither `inBIOS` nor the parameters. -/
theorem step_inBios_params {s t : State} (h : step s = .next t) :
    t.inBios = s.beginStep.inBios ∧ t.params = s.beginStep.params := by
  cases step_cases h with
  | dispatch _ h => rw [h, State.dispatch_eq]; simp
  | idle _ _ h => rw [h]; simp
  | fetchFault _ _ h => obtain ⟨j, _, r, _, rfl⟩ := fetchDecode_raised h; exact ⟨rfl, rfl⟩
  | instr i u v _ _ hf he h =>
    obtain ⟨bs, rest, -, -, -, -, hu⟩ := fetchDecode_instr hf
    have hv : v.inBios = s.beginStep.inBios ∧ v.params = s.beginStep.params := by
      rw [exec_inBios he, exec_params he, hu]
      exact ⟨rfl, rfl⟩
    rw [h]
    exact State.endStep_keeps (P := fun u => u.inBios = s.beginStep.inBios ∧ u.params = s.beginStep.params) hv
      (fun u hu => by rw [State.countEi_eq]; exact hu) fun u n hu => by simpa using hu

/-- Settles O9: only the handoff of step 1 writes `inBIOS`, and nothing writes the parameters. -/
theorem biosFlagOnlyFalls : Obligations.BiosFlagOnlyFalls := by
  intro s t h
  obtain ⟨hi, hp⟩ := step_inBios_params h
  rw [hi, hp, State.beginStep_inBios]
  exact ⟨Iff.rfl, by rw [State.beginStep_eq]⟩

/-! ### Frames of all instructions (10_state.md R23 to R35) -/

/-- What `i`, started in `s`, leaves of the register file. -/
structure RegistersKept (i : Instr) (s t : State) : Prop where
  reg : ∀ r, r ∉ destRegs i → t.reg r = s.reg r
  f : writesFlags i = false → t.f = s.f
  sp : writesSp i = false → t.sp = s.sp
  pc : writesPc i = false → t.pc = s.pc

/-- States with the same registers are alike for `RegistersKept`. -/
theorem RegistersKept.congr {i : Instr} {s t u : State} (h : RegistersKept i s t) (hr : ∀ r, u.reg r = t.reg r)
    (hf : u.f = t.f) (hs : u.sp = t.sp) (hp : u.pc = t.pc) : RegistersKept i s u :=
  ⟨fun r hm => (hr r).trans (h.reg r hm), fun hw => hf.trans (h.f hw), fun hw => hs.trans (h.sp hw),
    fun hw => hp.trans (h.pc hw)⟩

theorem exec_registersKept {i : Instr} {s t : State} (h : exec i s = .next t) : RegistersKept i s t := by
  refine exec_keeps (P := RegistersKept i s) ?_ ⟨fun _ _ => rfl, fun _ => rfl, fun _ => rfl, fun _ => rfl⟩ h
  exact
    { reg := fun u r v hr hu =>
        { reg := fun q hq => (u.reg_setReg_other (fun e : q = r => hq (e ▸ hr)) v).trans (hu.reg q hq)
          f := by simpa using hu.f
          sp := by simpa using hu.sp
          pc := by simpa using hu.pc }
      flags := fun _ _ _ _ _ hw hu => { hu with f := fun hf => by simp [hw] at hf }
      popF := fun _ _ hw hu => { hu with f := fun hf => by simp [hw] at hf }
      sp := fun _ _ hw hu => { hu with sp := fun hf => by simp [hw] at hf }
      pc := fun _ _ hw hu => { hu with pc := fun hf => by simp [hw] at hf }
      store := fun u a v _ hu => hu.congr (u.reg_memWrite a v) (by simp) (by simp) (by simp)
      raise := fun _ _ hu => hu.congr (fun _ => rfl) rfl rfl rfl
      ime := fun _ _ _ hu => hu.congr (fun _ => rfl) rfl rfl rfl
      ei := fun _ _ _ _ hu => hu.congr (fun _ => rfl) rfl rfl rfl
      halt := fun _ _ hu => hu.congr (fun _ => rfl) rfl rfl rfl
      stop := fun _ _ hu => hu.congr (fun _ => rfl) rfl rfl rfl }

/-- Settles O31: every instruction answers, by writes of its own registers alone. -/
theorem registerFrame : Obligations.RegisterFrame := by
  intro i s
  obtain ⟨t, ht⟩ := exec_answers i s
  obtain ⟨hr, hf, hs, hp⟩ := exec_registersKept ht
  exact ⟨t, ht, hr, hf, hs, hp⟩

/-- A store marks nothing dirty, or is a plain write (20_memory.md R60). -/
theorem State.memWrite_clean_or_plain (s : State) (a : Word) (v : Byte) :
    ((s.memWrite a v).lcdcDirty = s.lcdcDirty ∧ (s.memWrite a v).vramDirty = s.vramDirty) ∨
      s.memWrite a v = s.plainWrite a.toNat v := by
  unfold State.memWrite
  simp only
  split
  · rw [State.mbcControl_eq]; exact .inl ⟨rfl, rfl⟩
  split
  · rw [State.extRamWrite_eq]; exact .inl ⟨rfl, rfl⟩
  split
  · exact .inl ⟨rfl, rfl⟩
  split
  · exact .inl ⟨rfl, rfl⟩
  split
  · exact .inl ⟨rfl, rfl⟩
  split
  · exact .inl ⟨rfl, rfl⟩
  · exact .inr rfl

/-- Only a store to LCDC marks it dirty (R44). -/
theorem State.lcdcDirty_memWrite (s : State) {a : Word} (h : a.toNat ≠ lcdcAddr) (v : Byte) :
    (s.memWrite a v).lcdcDirty = s.lcdcDirty := by
  rcases s.memWrite_clean_or_plain a v with ⟨hl, _⟩ | hw
  · exact hl
  · rw [hw]; simp [State.plainWrite, h]

/-- Only a store to video memory marks it dirty (R44). -/
theorem State.vramDirty_memWrite (s : State) {a : Word} (h : ¬(0x8000 ≤ a.toNat ∧ a.toNat < 0xA000)) (v : Byte) :
    (s.memWrite a v).vramDirty = s.vramDirty := by
  rcases s.memWrite_clean_or_plain a v with ⟨_, hv⟩ | hw
  · exact hv
  · have hout : (decide (0x8000 ≤ a.toNat) && decide (a.toNat ≤ 0x9FFF)) = false := by
      rw [← Bool.decide_and, decide_eq_false_iff_not]
      omega
    rw [hw]
    simp only [State.plainWrite, hout, Bool.or_false]

/-- HALT and STOP alone write their latches (46_system.md R256, R257). -/
theorem exec_halted_stopped {i : Instr} {s t : State} (h : exec i s = .next t) :
    (i ≠ .halt → t.halted = s.halted) ∧ ((∀ n, i ≠ .stop n) → t.stopped = s.stopped) :=
  exec_keeps (P := fun u => (i ≠ .halt → u.halted = s.halted) ∧ ((∀ n, i ≠ .stop n) → u.stopped = s.stopped))
    (keeps_of_sameLatches (fun hs h => ⟨fun hi => hs.halted.trans (h.1 hi), fun hi => hs.stopped.trans (h.2 hi)⟩)
      (fun _ _ _ h => h) (fun _ _ _ _ h => h) (fun _ hi h => ⟨fun hn => absurd hi hn, h.2⟩)
      (fun _ ⟨n, hi⟩ h => ⟨h.1, fun hn => absurd hi (hn n)⟩)) ⟨fun _ => rfl, fun _ => rfl⟩ h

/-- Settles O32: each component of the storage is left by every store that the clause allows. -/
theorem latchFrame : Obligations.LatchFrame := by
  intro i s t h
  obtain ⟨hhalt, hstop⟩ := exec_halted_stopped h
  refine ⟨exec_storage State.m h SameStorage.m fun u a v _ => u.memWrite_m a v,
    exec_storage State.lyCounter h SameStorage.lyCounter fun u a v _ => u.memWrite_lyCounter a v,
    exec_storage State.timaCounter h SameStorage.timaCounter fun u a v _ => u.memWrite_timaCounter a v,
    exec_inBios h,
    exec_storage State.vblankEvent h SameStorage.vblankEvent fun u a v _ => u.memWrite_vblankEvent a v,
    exec_params h, exec_ime_frame h, hhalt, hstop, fun hx => ?mbc, fun hx => ?div, fun hx => ?lcdc, fun hx => ?vram⟩
  case mbc => exact exec_storage State.mbc h SameStorage.mbc fun u a v ha => u.mbc_memWrite (hx a ha) v
  case div =>
    exact exec_storage State.divCounter h SameStorage.divCounter fun u a v ha =>
      (u.divCounter_memWrite a v).trans (if_neg (hx a ha))
  case lcdc =>
    exact exec_storage State.lcdcDirty h SameStorage.lcdcDirty fun u a v ha => u.lcdcDirty_memWrite (hx a ha) v
  case vram =>
    exact exec_storage State.vramDirty h SameStorage.vramDirty fun u a v ha => u.vramDirty_memWrite (hx a ha) v

/-- Outside the ROM area a store leaves every byte of the external RAM but the one its address shows (R75). -/
theorem State.get_extRam_memWrite (s : State) {a : Word} (ha : 0x8000 ≤ a.toNat) {o : Nat}
    (ho : 0xA000 ≤ a.toNat → a.toNat < 0xC000 → s.extRamOffset a.toNat ≠ some o) (v : Byte) :
    Memory.get (s.memWrite a v).extRam o = Memory.get s.extRam o := by
  by_cases hw : 0xA000 ≤ a.toNat ∧ a.toNat < 0xC000
  · have hext : s.memWrite a v = s.extRamWrite a.toNat v := by
      unfold State.memWrite
      simp only
      rw [if_neg (by omega), if_pos (by omega)]
    have hne := ho hw.1 hw.2
    rw [hext]
    unfold State.extRamWrite
    split
    · next off hoff => exact Memory.get_set_other _ (fun e : o = off => hne (e ▸ hoff)) v
    · rfl
  · rw [s.extRam_memWrite hw]

/-- With no store below 0x8000 the external RAM changes only at the offsets that the stored addresses show in the
state before: the bank registers, which choose the offset, stay. -/
theorem exec_extRam {i : Instr} {s t : State} (h : exec i s = .next t)
    (hx : ∀ x ∈ storeAddrs i s, 0x8000 ≤ x.toNat) {o : Nat}
    (ho : ∀ x ∈ storeAddrs i s, 0xA000 ≤ x.toNat → x.toNat < 0xC000 → s.extRamOffset x.toNat ≠ some o) :
    Memory.get t.extRam o = Memory.get s.extRam o := by
  suffices hkept : t.mbc = s.mbc ∧ t.params = s.params ∧ Memory.get t.extRam o = Memory.get s.extRam o from
    hkept.2.2
  refine exec_keeps (P := fun u => u.mbc = s.mbc ∧ u.params = s.params ∧
    Memory.get u.extRam o = Memory.get s.extRam o) (keeps_of_sameStorage ?congr ?store) ⟨rfl, rfl, rfl⟩ h
  case congr =>
    rintro u w hs ⟨hb, hp, he⟩
    exact ⟨hs.mbc.trans hb, hs.params.trans hp, by rw [hs.extRam, he]⟩
  case store =>
    rintro u a v ha ⟨hb, hp, he⟩
    refine ⟨(u.mbc_memWrite (hx a ha) v).trans hb, (u.memWrite_params a v).trans hp, ?_⟩
    rw [u.get_extRam_memWrite (hx a ha) (State.extRamOffset_congr hb hp a.toNat ▸ ho a ha), he]

/-- Settles O33: each view of memory is left by every store that the clause allows. -/
theorem memoryFrame : Obligations.MemoryFrame := by
  intro i s t h
  refine ⟨fun hx a ha => ?read, fun a hx => ?cell, fun hx => ?ext, fun hx o ho => exec_extRam h hx ho⟩
  case read =>
    exact exec_storage (State.memRead · a) h (fun hs => hs.memRead a) fun u x v hm =>
      u.memRead_memWrite_other (hx x hm) (fun e : a = x => ha (e ▸ hm)) v
  case cell =>
    exact exec_storage (State.cell · a) h (fun hs => hs.cell a) fun u x v hm => u.cell_memWrite_other x v (hx x hm)
  case ext =>
    exact exec_storage State.extRam h SameStorage.extRam fun u x v hm => u.extRam_memWrite (hx x hm) v

/-! ### The reset state (R46) -/

/-- A cell of the reset state is zero or one of the bytes POST_BIOS_IO writes there. -/
theorem cell_resetOf {p : Params} {a : Nat} {Q : Byte → Prop} (h0 : Q 0)
    (hc : ∀ c ∈ p.postBiosIo, c.1 = a → Q c.2) : Q ((State.resetOf p).cell a) := by
  show Q (Memory.get (resetMem p) a)
  unfold resetMem
  split
  · exact Memory.get_foldl_set h0 hc
  · exact h0

theorem memInv_resetOf {p : Params} (h : p.wf) : (State.resetOf p).MemInv := by
  obtain ⟨_, _, _, _, _, ⟨hext, hsize⟩, _, _, _, hio⟩ := h
  have hmem : Memory.wf (resetMem p) ∧ ∀ c ∈ resetMem p, isMemCell c.1 = true := by
    unfold resetMem
    split
    · exact ⟨Memory.wf_foldl_set _ Memory.wf_nil,
        Memory.keys_foldl_set (p := fun a => isMemCell a = true) _ (fun c hc => (hio c hc).1) (by simp)⟩
    · exact ⟨Memory.wf_nil, by simp⟩
  exact ⟨hmem.1, hmem.2, hext, hsize,
    cell_resetOf (Q := (· = 0)) rfl fun c hc ha => absurd ha (hio c hc).2.1⟩

theorem timeInv_resetOf {p : Params} (h : p.wf) : (State.resetOf p).TimeInv := by
  obtain ⟨_, _, _, _, _, _, hly, hdiv, ⟨h0, _⟩, hio⟩ := h
  exact
    { ly := cell_resetOf (Q := fun v => v.toNat ≤ 153) (by decide) fun c hc => (hio c hc).2.2
      lyCounter := hly
      divCounter := hdiv
      timaCounter := lt_max_of_lt_left (lt_max_of_lt_left h0) }

theorem flagInv_resetOf (p : Params) : (State.resetOf p).FlagInv := by
  show resetF p.skipBios &&& 0x0F = 0
  cases p.skipBios <;> rfl

theorem bankInv_resetOf (p : Params) : (State.resetOf p).BankInv := by
  cases hk : p.cartKind <;> simp [State.BankInv, State.resetOf, hk]

/-- Settles O21: each invariant holds of the reset state. -/
theorem resetSatisfiesInvariants : Obligations.ResetSatisfiesInvariants := fun p h =>
  ⟨memInv_resetOf h, flagInv_resetOf p, timeInv_resetOf h, bankInv_resetOf p,
    ⟨Nat.zero_le 2, fun _ => rfl⟩, rfl, rfl⟩

/-- Settles O23: the registers by the reset table, the cells by the list of writes that fills them. -/
theorem resetValues : Obligations.ResetValues := by
  intro p
  refine ⟨fun hs => ?bios, fun hs => ?skip, rfl, rfl, rfl, rfl, rfl, rfl, rfl, rfl, rfl, rfl, rfl, rfl, rfl, rfl, rfl⟩
  case bios =>
    have hmem : resetMem p = [] := if_neg (by simp [hs])
    refine ⟨fun r => ?_, ?_, ?_, ?_, ?_, fun a => congrArg (Memory.get · a) hmem⟩
    · cases r <;> simp [State.reg, State.resetOf, resetReg, hs]
    all_goals simp [State.resetOf, resetF, resetSp, resetPc, hs]
  case skip =>
    have hmem : resetMem p = List.foldl (fun m c => Memory.set m c.1 c.2) [] p.postBiosIo := if_pos hs
    refine ⟨?_, ?_, ?_, ?_, ?_, ?_, ?_, ?_, ?_, ?_, ?_, fun a ha => ?_, fun hd c hc => ?_⟩
    case refine_12 => exact cell_resetOf (Q := (· = 0)) rfl fun c hc h => absurd h (ha c hc)
    case refine_13 => exact (congrArg (Memory.get · c.1) hmem).trans (Memory.get_foldl_set_of_distinct hd hc [])
    all_goals simp [State.resetOf, resetReg, resetF, resetSp, resetPc, hs]

/-! ### Registers and pairs (R20, R21) -/

theorem hiByte_toNat (w : Word) : (hiByte w).toNat = w.toNat / 256 := by
  have h := word_toNat (hiByte w) (loByte w)
  rw [word_hi_lo] at h
  have := (loByte w).isLt
  omega

theorem loByte_toNat (w : Word) : (loByte w).toNat = w.toNat % 256 := by
  have h := word_toNat (hiByte w) (loByte w)
  rw [word_hi_lo] at h
  have := (loByte w).isLt
  omega

/-- A stack pair other than AF written reads back. -/
theorem State.stackPair_setStackPair (s : State) {q : StackPair} (h : q ≠ .AF) (w : Word) :
    (s.setStackPair q w).stackPair q = w := by
  cases q with
  | AF => exact absurd rfl h
  | BC => exact word_hi_lo w
  | DE => exact word_hi_lo w
  | HL => exact word_hi_lo w

/-- Settles O24: the rules of register and pair writes. -/
theorem registerPairsAlias : Obligations.RegisterPairsAlias := fun s d q v w =>
  ⟨s.reg_setReg d q v, s.setReg_f d v, word_toNat s.b s.c, word_toNat s.d s.e, word_toNat s.h s.l,
    word_toNat s.a s.f, fun p => s.pair_setPair p w, fun _ hq => s.stackPair_setStackPair hq w, word_mask_low w,
    hiByte_toNat w, loByte_toNat w⟩

end Machine
end Sys2Proof

/-! PROOFS of the statements about the memory map (spec/20_memory.md): the regions of the read and the write dispatch,
the cartridge controllers and their two bank numbers, the external-RAM window. -/

namespace Sys2Proof
open Sys2Proof.Machine

namespace Machine

/-! ### The read dispatch by region (R55, R58) -/

/-- The unsupported registers lie in the I/O page. -/
theorem unsupported_of_lt {a : Nat} (h : a < 0xFF00) : unsupportedAddrs.contains a = false := by
  simp only [unsupportedAddrs, sbAddr, scAddr, dmaAddr, key1Addr, svbkAddr, List.contains_eq_mem,
    decide_eq_false_iff_not, List.mem_cons, List.not_mem_nil, or_false]
  omega

theorem State.memRead_bios {s : State} {a : Word} (h : a.toNat < 0x0100) (hb : s.inBios = true) :
    s.memRead a = .ok (Memory.get s.params.bios a.toNat) := by
  unfold State.memRead
  simp only [unsupported_of_lt (show a.toNat < 0xFF00 by omega), Bool.false_eq_true, if_false]
  rw [if_pos (by omega), if_pos ⟨hb, h⟩]

theorem State.memRead_rom {s : State} {a : Word} (h : a.toNat < 0x8000)
    (hb : ¬(s.inBios = true ∧ a.toNat < 0x0100)) :
    s.memRead a = .ok (s.romRead a.toNat) := by
  unfold State.memRead
  simp only [unsupported_of_lt (show a.toNat < 0xFF00 by omega), Bool.false_eq_true, if_false]
  rw [if_pos (by omega), if_neg hb]

theorem State.memRead_window (s : State) {a : Word} (h1 : 0xA000 ≤ a.toNat) (h2 : a.toNat < 0xC000) :
    s.memRead a = .ok (s.extRamRead a.toNat) := by
  unfold State.memRead
  simp only [unsupported_of_lt (show a.toNat < 0xFF00 by omega), Bool.false_eq_true, if_false]
  rw [if_neg (by omega), if_pos (by omega)]

/-- Bank 0 shows in the lower ROM area. -/
theorem State.romRead_lower (s : State) {a : Nat} (h : a < 0x4000) : s.romRead a = Memory.get s.params.rom a :=
  congrArg (Memory.get s.params.rom) (if_pos h)

/-- The effective bank shows in the upper ROM area. -/
theorem State.romRead_upper (s : State) {a : Nat} (h : 0x4000 ≤ a) :
    s.romRead a = Memory.get s.params.rom (s.effRomBank * 0x4000 + (a - 0x4000)) :=
  congrArg (Memory.get s.params.rom) (if_neg (Nat.not_lt.2 h))

theorem State.memRead_upperRom (s : State) {a : Word} (h1 : 0x4000 ≤ a.toNat) (h2 : a.toNat < 0x8000) :
    s.memRead a = .ok (Memory.get s.params.rom (s.effRomBank * 0x4000 + (a.toNat - 0x4000))) := by
  rw [State.memRead_rom h2 (by omega), s.romRead_upper h1]

/-! ### The external-RAM window (R74, R75) -/

/-- Closed, absent or beyond the declared size, an address of the window shows no byte. -/
theorem State.extRamOffset_eq_none {s : State} {a : Nat} (h : s.mbc.gateOpen = false ∨ s.params.ramBanks = 0 ∨
    s.params.ramSize ≤ s.effRamBank * 0x2000 + (a - 0xA000)) : s.extRamOffset a = none := by
  unfold State.extRamOffset
  by_cases hg : s.mbc.gateOpen = false ∨ s.params.ramBanks = 0
  · rw [if_pos hg]
  · have hsize := (or_assoc.2 h).resolve_left hg
    simp only [if_neg hg, if_neg (Nat.not_lt.2 hsize)]

/-- Open, an address within the declared size shows the byte at its offset. -/
theorem State.extRamOffset_eq_some {s : State} {a : Nat} (hg : s.mbc.gateOpen = true) (hk : s.params.ramBanks ≠ 0)
    (hsize : s.effRamBank * 0x2000 + (a - 0xA000) < s.params.ramSize) :
    s.extRamOffset a = some (s.effRamBank * 0x2000 + (a - 0xA000)) :=
  (if_neg (by simp [hg, hk])).trans (if_pos hsize)

theorem State.extRamRead_none {s : State} {a : Nat} (h : s.extRamOffset a = none) : s.extRamRead a = 0xFF := by
  simp only [State.extRamRead, h]

theorem State.extRamRead_some {s : State} {a o : Nat} (h : s.extRamOffset a = some o) :
    s.extRamRead a = Memory.get s.extRam o := by
  simp only [State.extRamRead, h]

theorem State.extRamWrite_none {s : State} {a : Nat} (h : s.extRamOffset a = none) (v : Byte) :
    s.extRamWrite a v = s := by
  simp only [State.extRamWrite, h]

theorem State.extRamWrite_some {s : State} {a o : Nat} (h : s.extRamOffset a = some o) (v : Byte) :
    s.extRamWrite a v = { s with extRam := Memory.set s.extRam o v } := by
  simp only [State.extRamWrite, h]

/-- Settles O25: one region of the dispatch after another. -/
theorem readDispatch : Obligations.ReadDispatch := by
  intro s a
  refine ⟨fun r => ?fault, State.memRead_bios, fun hn hb => ?bank0, s.memRead_upperRom,
    fun h1 h2 => ⟨fun hc => ?closed, fun hg hk hsize => ?opened⟩, s.memRead_cell⟩
  case fault => rw [s.memRead_error_iff, unsupported_iff]
  case bank0 => rw [State.memRead_rom (by omega) hb, s.romRead_lower hn]
  case closed => rw [s.memRead_window h1 h2, State.extRamRead_none (State.extRamOffset_eq_none hc)]
  case opened => rw [s.memRead_window h1 h2, State.extRamRead_some (State.extRamOffset_eq_some hg hk hsize)]

/-! ### The write dispatch by region (R60) -/

theorem State.memWrite_rom (s : State) {a : Word} (h : a.toNat < 0x8000) (v : Byte) :
    s.memWrite a v = s.mbcControl a.toNat v := if_pos (Nat.le_of_lt_succ h)

theorem State.memWrite_window (s : State) {a : Word} (h1 : 0xA000 ≤ a.toNat) (h2 : a.toNat < 0xC000) (v : Byte) :
    s.memWrite a v = s.extRamWrite a.toNat v :=
  (if_neg (by omega)).trans (if_pos (by omega))

theorem State.memWrite_stat (s : State) {a : Word} (h : a.toNat = statAddr) (v : Byte) :
    s.memWrite a v = s.setCell statAddr (v ||| 0x80) := by
  unfold State.memWrite
  rw [h]; rfl

theorem State.memWrite_vbk (s : State) {a : Word} (h : a.toNat = vbkAddr) (v : Byte) : s.memWrite a v = s := by
  unfold State.memWrite
  rw [h]; rfl

theorem State.memWrite_ly (s : State) {a : Word} (h : a.toNat = lyAddr) (v : Byte) : s.memWrite a v = s := by
  unfold State.memWrite
  rw [h]; rfl

theorem State.memWrite_div (s : State) {a : Word} (h : a.toNat = divAddr) (v : Byte) :
    s.memWrite a v = { s with mem := Memory.set s.mem divAddr 0, divCounter := 0 } := by
  unfold State.memWrite
  rw [h]; rfl

theorem plainAddr_ge {a : Nat} (h : plainAddr a = true) : 0x8000 ≤ a := by
  simp only [plainAddr, isMemCell, Bool.and_eq_true, Bool.or_eq_true, decide_eq_true_eq] at h
  omega

/-- A plain write stores its byte and marks what the renderer must draw again (R44). -/
theorem State.plainWrite_dirty (s : State) (a : Nat) (v : Byte) :
    (s.plainWrite a v).lcdcDirty = (s.lcdcDirty || decide (a = 0xFF40)) ∧
      (s.plainWrite a v).vramDirty = (s.vramDirty || decide (0x8000 ≤ a ∧ a < 0xA000)) :=
  ⟨rfl, congrArg (s.vramDirty || ·) (by rw [Bool.decide_and, decide_eq_decide.2 Nat.lt_succ_iff])⟩

/-- Settles O26: one region of the dispatch after another. -/
theorem writeDispatch : Obligations.WriteDispatch := by
  intro s a v
  have hother : ∀ {n : Nat}, a.toNat = n → ∀ b, b ≠ n → (s.memWrite a v).cell b = s.cell b :=
    fun hn b hb => s.cell_memWrite_other a v (hn ▸ hb.symm)
  refine ⟨fun h => ?rom, fun h1 h2 => ?window, fun h => ⟨?stat, hother h, ?statFrame⟩, ?dropped,
    fun h => ⟨?div, hother h, ?divFrame⟩, fun h => ?plain⟩
  case rom => rw [s.memWrite_rom h]; exact s.mbcControl_eq a.toNat v
  case window => rw [s.memWrite_window h1 h2]; exact s.extRamWrite_eq a.toNat v
  case stat => rw [s.memWrite_stat h]; exact Memory.get_set_same s.mem statAddr _
  case statFrame => rw [s.memWrite_stat h]; rfl
  case dropped => exact fun h => h.elim (s.memWrite_vbk · v) (s.memWrite_ly · v)
  case div => rw [s.memWrite_div h]; exact Memory.get_set_same s.mem divAddr 0
  case divFrame => rw [s.memWrite_div h]
  case plain =>
    have hw := s.memWrite_plain h v
    obtain ⟨hl, hv⟩ := s.plainWrite_dirty a.toNat v
    refine ⟨?_, hother rfl, fun hu => ?_, fun b hb => s.memRead_memWrite_other (plainAddr_ge h) hb v,
      hw ▸ hl, hw ▸ hv, ?_⟩
    · rw [hw]; exact Memory.get_set_same s.mem a.toNat v
    · exact s.memRead_memWrite_same (by rw [ramAddr, h, hu]; rfl) v
    · rw [hw]; rfl

/-! ### Bank-controller commands (R70, R71, R76, R77) -/

theorem State.mbcControl_none {s : State} (hk : s.params.cartKind = .none) (a : Nat) (v : Byte) :
    s.mbcControl a v = s := by
  simp only [State.mbcControl, hk]

/-- Every controller has the gate of R74 in its first quarter. -/
theorem State.mbcControl_gate {s : State} (hk : s.params.cartKind ≠ .none) {a : Nat} (h : a < 0x2000) (v : Byte) :
    s.mbcControl a v = { s with mbc := { s.mbc with gateOpen := decide (v.toNat = 0x0A) } } := by
  have hv : (v == 0x0A) = decide (v.toNat = 0x0A) := decide_eq_decide.2 BitVec.toNat_inj.symm
  cases hc : s.params.cartKind with
  | none => exact absurd hc hk
  | mbc1 | mbc3 | mbc5 => simp only [State.mbcControl, hc, if_pos h, hv]

theorem State.mbcControl_mbc1_bankLo {s : State} (hk : s.params.cartKind = .mbc1) {a : Nat} (h1 : 0x2000 ≤ a)
    (h2 : a < 0x4000) (v : Byte) :
    s.mbcControl a v = { s with mbc := { s.mbc with bankLo := BitVec.ofNat 8 (v.toNat % 32) } } := by
  have hv : v &&& 0x1F = BitVec.ofNat 8 (v.toNat % 32) := by
    rw [← Nat.and_two_pow_sub_one_eq_mod v.toNat 5, BitVec.ofNat_and, BitVec.ofNat_toNat, BitVec.setWidth_eq]; rfl
  simp only [State.mbcControl, hk, if_neg (Nat.not_lt.2 h1), if_pos h2, hv]

theorem State.mbcControl_mbc1_bankHi {s : State} (hk : s.params.cartKind = .mbc1) {a : Nat} (h1 : 0x4000 ≤ a)
    (h2 : a < 0x6000) (v : Byte) :
    s.mbcControl a v = { s with mbc := { s.mbc with bankHi := BitVec.ofNat 2 (v.toNat % 4) } } := by
  have hv : v.setWidth 2 = BitVec.ofNat 2 (v.toNat % 4) := BitVec.eq_of_toNat_eq (by simp)
  simp only [State.mbcControl, hk, if_neg (show ¬a < 0x2000 by omega), if_neg (Nat.not_lt.2 h1), if_pos h2, hv]

theorem State.mbcControl_mbc1_mode {s : State} (hk : s.params.cartKind = .mbc1) {a : Nat} (h : 0x6000 ≤ a)
    (v : Byte) :
    s.mbcControl a v = { s with mbc := { s.mbc with mode := BitVec.ofNat 1 (v.toNat % 2) } } := by
  have hv : v.setWidth 1 = BitVec.ofNat 1 (v.toNat % 2) := BitVec.eq_of_toNat_eq (by simp)
  simp only [State.mbcControl, hk, if_neg (show ¬a < 0x2000 by omega), if_neg (show ¬a < 0x4000 by omega),
    if_neg (Nat.not_lt.2 h), hv]

section
variable {s : State} (hk : s.params.cartKind = .mbc3 ∨ s.params.cartKind = .mbc5) {a : Nat}
include hk

/-! MBC3 and MBC5 share their commands (R76, R77) and the bank numbers these select (R72, R73). -/

theorem State.mbcControl_mbc35_bankLo (h1 : 0x2000 ≤ a) (h2 : a < 0x4000) (v : Byte) :
    s.mbcControl a v = { s with mbc := { s.mbc with bankLo := v } } := by
  rcases hk with hk | hk <;> simp only [State.mbcControl, hk, if_neg (Nat.not_lt.2 h1), if_pos h2]

theorem State.mbcControl_mbc35_ramBankReg (h1 : 0x4000 ≤ a) (h2 : a < 0x6000) (v : Byte) :
    s.mbcControl a v = { s with mbc := { s.mbc with ramBankReg := v } } := by
  rcases hk with hk | hk <;>
    simp only [State.mbcControl, hk, if_neg (show ¬a < 0x2000 by omega), if_neg (Nat.not_lt.2 h1), if_pos h2]

theorem State.mbcControl_mbc35_dropped (h : 0x6000 ≤ a) (v : Byte) : s.mbcControl a v = s := by
  rcases hk with hk | hk <;>
    simp only [State.mbcControl, hk, if_neg (show ¬a < 0x2000 by omega), if_neg (show ¬a < 0x4000 by omega),
      if_neg (Nat.not_lt.2 h)]

theorem State.effRomBank_mbc35 : s.effRomBank = max 1 (s.mbc.bankLo.toNat % s.params.romBanks) := by
  rcases hk with hk | hk <;> simp only [State.effRomBank, State.requestedRomBank, hk]

theorem State.effRamBank_mbc35 : s.effRamBank = s.mbc.ramBankReg.toNat % s.params.ramBanks := by
  rcases hk with hk | hk <;> simp only [State.effRamBank, State.requestedRamBank, hk]

/-- A ROM bank request is seen by the next read of the upper window. -/
theorem State.memRead_upperRom_of_request {a b : Word} (ha1 : 0x2000 ≤ a.toNat) (ha2 : a.toNat < 0x4000)
    (hb1 : 0x4000 ≤ b.toNat) (hb2 : b.toNat < 0x8000) (v : Byte) :
    (s.memWrite a v).memRead b =
      .ok (Memory.get s.params.rom (max 1 (v.toNat % s.params.romBanks) * 0x4000 + (b.toNat - 0x4000))) := by
  rw [State.memRead_upperRom _ hb1 hb2, s.memWrite_rom (by omega), State.mbcControl_mbc35_bankLo hk ha1 ha2,
    State.effRomBank_mbc35 (by exact hk)]

end

/-! ### The effective banks (R72, R73) -/

theorem State.effRomBank_none {s : State} (hk : s.params.cartKind = .none) : s.effRomBank = 1 := by
  simp only [State.effRomBank, State.requestedRomBank, hk]
  exact max_eq_left (Nat.mod_le 1 _)

theorem State.one_le_effRomBank (s : State) : 1 ≤ s.effRomBank := le_max_left 1 _

theorem State.effRomBank_lt {s : State} (h : 2 ≤ s.params.romBanks) : s.effRomBank < s.params.romBanks :=
  max_lt h (Nat.mod_lt _ (by omega))

/-- The upper bits join the five lower ones that MBC1 keeps. -/
theorem State.effRomBank_mbc1_mode0 {s : State} (hk : s.params.cartKind = .mbc1) (hlo : s.mbc.bankLo.toNat < 32)
    (hm : s.mbc.mode = 0) :
    s.effRomBank = max 1 ((s.mbc.bankHi.toNat * 32 + s.mbc.bankLo.toNat) % s.params.romBanks) := by
  have hjoin := Nat.shiftLeft_add_eq_or_of_lt (i := 5) hlo s.mbc.bankHi.toNat
  simp only [State.effRomBank, State.requestedRomBank, hk, if_pos hm]
  rw [← hjoin, Nat.shiftLeft_eq]

theorem State.effRomBank_mbc1_mode1 {s : State} (hk : s.params.cartKind = .mbc1) (hm : s.mbc.mode = 1) :
    s.effRomBank = max 1 (s.mbc.bankLo.toNat % s.params.romBanks) := by
  have hm0 : s.mbc.mode ≠ 0 := by rw [hm]; decide
  simp only [State.effRomBank, State.requestedRomBank, hk, if_neg hm0]

theorem State.effRamBank_mbc1 {s : State} (hk : s.params.cartKind = .mbc1) :
    s.effRamBank = (if s.mbc.mode = 1 then s.mbc.bankHi.toNat else 0) % s.params.ramBanks := by
  simp only [State.effRamBank, State.requestedRamBank, hk]

/-- Settles O27: the command of each quarter of the ROM area, by controller. -/
theorem bankControllerWrites : Obligations.BankControllerWrites := by
  intro s a v h
  dsimp only
  rw [s.memWrite_rom h]
  exact ⟨fun hk => ⟨State.mbcControl_none hk _ v, State.effRomBank_none hk⟩,
    fun hk hn => State.mbcControl_gate hk hn v,
    fun hk => ⟨fun h1 h2 => State.mbcControl_mbc1_bankLo hk h1 h2 v,
      fun h1 h2 => State.mbcControl_mbc1_bankHi hk h1 h2 v, fun h1 => State.mbcControl_mbc1_mode hk h1 v⟩,
    fun hk => ⟨fun h1 h2 => State.mbcControl_mbc35_bankLo hk h1 h2 v,
      fun h1 h2 => State.mbcControl_mbc35_ramBankReg hk h1 h2 v, fun h1 => State.mbcControl_mbc35_dropped hk h1 v⟩⟩

/-- Settles O28: the bank is the request modulo the bank count and at least 1; the requests 0 and `k` leave remainder
0, so bank 1 shows. -/
theorem effectiveRomBank : Obligations.EffectiveRomBank := by
  intro s hbanks hinv
  refine ⟨s.one_le_effRomBank, State.effRomBank_lt hbanks, State.effRomBank_none, fun hk hm => ?mode0,
    State.effRomBank_mbc1_mode1, fun hk => ⟨State.effRomBank_mbc35 hk, fun a b v ha1 ha2 hb1 hb2 => ?request⟩⟩
  case mode0 =>
    have hlo : s.mbc.bankLo.toNat < 32 := by
      simp only [State.BankInv, hk] at hinv
      exact hinv.1
    exact State.effRomBank_mbc1_mode0 hk hlo hm
  case request =>
    rw [State.memRead_upperRom_of_request hk ha1 ha2 hb1 hb2]
    constructor
    · intro hv
      have hrem : v.toNat % s.params.romBanks = 0 := by
        rcases hv with rfl | hv
        · exact Nat.zero_mod _
        · rw [hv, Nat.mod_self]
      have hindex : max 1 0 * 0x4000 + (b.toNat - 0x4000) = b.toNat := by omega
      rw [hrem, hindex]
    · intro hv0 hvk
      have hpos : 1 ≤ v.toNat := Nat.one_le_iff_ne_zero.2 fun e => hv0 (BitVec.eq_of_toNat_eq e)
      rw [Nat.mod_eq_of_lt hvk, max_eq_right hpos]

/-- Settles O29: the offset of the window decides both the read and the write. -/
theorem externalRamWindow : Obligations.ExternalRamWindow := by
  intro s a v h1 h2
  refine ⟨State.effRamBank_mbc1, State.effRamBank_mbc35, fun hc => ?closed, fun hg hk hsize => ?opened⟩
  case closed =>
    have ho := State.extRamOffset_eq_none hc
    exact ⟨(s.memWrite_window h1 h2 v).trans (State.extRamWrite_none ho v),
      (s.memRead_window h1 h2).trans (congrArg _ (State.extRamRead_none ho))⟩
  case opened =>
    have ho := State.extRamOffset_eq_some hg hk hsize
    have hw := (s.memWrite_window h1 h2 v).trans (State.extRamWrite_some ho v)
    have hback : Memory.get (s.memWrite a v).extRam (s.effRamBank * 0x2000 + (a.toNat - 0xA000)) = v := by
      rw [hw]; exact Memory.get_set_same s.extRam _ v
    refine ⟨?_, fun b hb => s.memRead_memWrite_other (by omega) hb v, hback, fun o hne => ?_⟩
    · have ht : (s.memWrite a v).extRamOffset a.toNat = some (s.effRamBank * 0x2000 + (a.toNat - 0xA000)) :=
        (State.extRamOffset_congr (s.mbc_memWrite (by omega) v) (s.memWrite_params a v) a.toNat).trans ho
      rw [State.memRead_window _ h1 h2, State.extRamRead_some ht, hback]
    · exact s.get_extRam_memWrite (by omega) (fun _ _ e => hne (Option.some.inj (e.symm.trans ho))) v

end Machine
end Sys2Proof

/-! PROOFS of the statements about the encoding (spec/30_encoding.md): the decoder inverted once, its instructions
encoded again, and the fetch of the undefined first bytes. -/

namespace Sys2Proof
open Sys2Proof.Machine

/-! ### What the decoder answers (R100, R101) -/

/-- A decoded instruction is one of the second opcode map, or one of the first with the operand bytes it asks for. -/
theorem decode_cases {bs rest : List Byte} {i : Instr} (h : decode bs = .ok (i, rest)) :
    (∃ op2, bs = cbByte :: op2 :: rest ∧ i = decodeCb op2) ∨
    (∃ op b1 b2, op ≠ cbByte ∧ bs = op :: ([b1, b2].take (operandBytes op) ++ rest) ∧ i = decodeMain op b1 b2) := by
  unfold decode at h
  split at h
  · cases h
  next op more =>
  split at h
  · next hcb =>
    subst hcb
    split at h <;> cases h
    exact .inl ⟨_, rfl, rfl⟩
  · next hcb =>
    split at h <;> cases h
    all_goals next hn => exact .inr ⟨op, _, _, hcb, by rw [hn]; rfl, rfl⟩

/-! ### The instructions of the two opcode maps (R112 to R117) -/

/-- A byte given by its value, for a split into the 256 rows of a map. -/
theorem Byte.exists_ofNat (op : Byte) : ∃ n < 256, op = BitVec.ofNat 8 n :=
  ⟨op.toNat, op.isLt, by rw [BitVec.ofNat_toNat, BitVec.setWidth_eq]⟩

/-- The encoder writes the first byte and the operand bytes that an instruction of the first map was decoded from. -/
theorem encode_decodeMain (op b1 b2 : Byte) :
    encode (decodeMain op b1 b2) = op :: [b1, b2].take (operandBytes op) := by
  have hlo := loByte_word b2 b1
  have hhi := hiByte_word b2 b1
  unfold decodeMain decodeX0 decodeX3
  -- With the 16-bit operand as the variable, each of the 256 rows is an equation of closed byte lists.
  generalize word b2 b1 = w at hlo hhi ⊢
  subst hlo hhi
  obtain ⟨n, hn, rfl⟩ := Byte.exists_ofNat op
  interval_cases n <;> rfl

theorem encode_decodeCb : ∀ op2 : Byte, encode (decodeCb op2) = [cbByte, op2] := by decide

/-- Only 0xCB, which begins the second map, has no well-formed row in the first. -/
theorem wellFormed_decodeMain (op b1 b2 : Byte) :
    (decodeMain op b1 b2).wellFormed = decide (op ≠ cbByte) := by
  obtain ⟨n, hn, rfl⟩ := Byte.exists_ofNat op
  interval_cases n <;> rfl

theorem wellFormed_decodeCb : ∀ op2 : Byte, (decodeCb op2).wellFormed = true := by decide

theorem encode_append_of_decode {bs rest : List Byte} {i : Instr} (h : decode bs = .ok (i, rest)) :
    encode i ++ rest = bs := by
  obtain ⟨op2, rfl, rfl⟩ | ⟨op, b1, b2, -, rfl, rfl⟩ := decode_cases h
  · rw [encode_decodeCb]; rfl
  · rw [encode_decodeMain, List.cons_append]

theorem wellFormed_of_decode {bs rest : List Byte} {i : Instr} (h : decode bs = .ok (i, rest)) :
    i.wellFormed = true := by
  obtain ⟨op2, -, rfl⟩ | ⟨op, b1, b2, hcb, -, rfl⟩ := decode_cases h
  · exact wellFormed_decodeCb op2
  · rw [wellFormed_decodeMain, decide_eq_true hcb]

/-- Settles O3: enough bytes decode, and the bytes consumed are the encoding of what they decode to. -/
theorem firstByteGivesLength : Obligations.FirstByteGivesLength := by
  intro op
  refine ⟨rfl, instrLength_le op, fun rest h => ?_⟩
  obtain ⟨i, hi⟩ := decode_enough op rest h
  have hlen := congrArg List.length (encode_append_of_decode hi)
  have hpos := instrLength_pos op
  rw [List.length_append, List.length_drop, List.length_cons] at hlen
  exact ⟨i, hi, by omega⟩

/-- Settles O4: the decoder evaluated on each word. -/
theorem opcodeMapWords : Obligations.OpcodeMapWords :=
  ⟨rfl, rfl, rfl, rfl, rfl, rfl, rfl, rfl, rfl, rfl, rfl, rfl, rfl, rfl, rfl⟩

/-! ### The undefined first bytes (R117) -/

/-- An undefined first byte stands alone. -/
theorem decode_undefined {op : Byte} (h : op ∈ undefinedOpcodes) (rest : List Byte) :
    decode (op :: rest) = .ok (.illegal op, rest) := by
  simp only [undefinedOpcodes, List.mem_cons, List.not_mem_nil, or_false] at h
  obtain rfl | rfl | rfl | rfl | rfl | rfl | rfl | rfl | rfl | rfl | rfl := h <;> rfl

theorem mem_undefinedOpcodes_of_decode {bs rest : List Byte} {op : Byte} (h : decode bs = .ok (.illegal op, rest)) :
    op ∈ undefinedOpcodes :=
  List.contains_iff_mem.1 (wellFormed_of_decode h)

theorem instrLength_undefined : ∀ op ∈ undefinedOpcodes, instrLength op = 1 := by decide

namespace Machine

/-! ### The step that fetches (60_exceptions.md R270) -/

/-- Readable bytes that make up one instruction are fetched as that instruction, with PC past them. -/
theorem fetchDecode_of_bytesAt {s : State} {op : Byte} {bs rest : List Byte} {i : Instr}
    (h : BytesAt s s.pc (op :: bs)) (hlen : instrLength op = bs.length + 1) (hd : decode (op :: bs) = .ok (i, rest)) :
    s.fetchDecode = .instr i { s with pc := s.pc + 1 + BitVec.ofNat 16 bs.length } := by
  obtain ⟨hop, hbs⟩ := h
  have hrest : BytesAt ({ s with pc := s.pc + 1 } : State) (s.pc + 1) bs := bytesAt_setPc hbs
  rw [State.fetchDecode, fetchBytes_one hop]
  simp only [hlen, Nat.add_sub_cancel, fetchBytes_of_bytesAt hrest, hd]

theorem step_of_fetchDecode {s u : State} {i : Instr} (hs : s.Fetches) (hf : s.fetchDecode = .instr i u) :
    step s = finishInstr i u := by
  have ⟨hrun, hhalt, _, hint⟩ := hs
  rw [step_eq_runStep hrun, beginStep_of_fetches hs]
  simp only [State.runStep, hint, hhalt, hf, Bool.false_eq_true, if_false]

theorem exec_illegal (op : Byte) (s : State) :
    exec (.illegal op) s = .next { s with fault := some (.unimplementedOpcode (s.pc - 1) op) } := rfl

/-- A faulted instruction ends its step: no EI countdown and no time (R273). -/
theorem finishInstr_of_fault {i : Instr} {s t : State} {r : Fault} (h : exec i s = .next t) (hf : t.fault = some r) :
    finishInstr i s = .next t := by
  simp only [finishInstr, h, State.endStep_some hf]

theorem step_undefined {s : State} {op : Byte} (hs : s.Fetches) (hr : s.memRead s.pc = .ok op)
    (h : op ∈ undefinedOpcodes) :
    step s = .next { s with pc := s.pc + 1, fault := some (.unimplementedOpcode s.pc op) } := by
  have hf := fetchDecode_of_bytesAt (bs := []) ⟨hr, trivial⟩ (instrLength_undefined op h) (decode_undefined h [])
  rw [step_of_fetchDecode hs hf, finishInstr_of_fault (exec_illegal op _) rfl]
  simp only [List.length_nil, BitVec.ofNat_eq_ofNat, BitVec.add_zero, BitVec.add_sub_cancel]

/-- Settles O11: the undefined bytes are those that decode to `illegal`, whose meaning is the fault. -/
theorem undefinedOpcodesFault : Obligations.UndefinedOpcodesFault :=
  ⟨fun _ b1 b2 => ⟨fun ⟨_, h⟩ => mem_undefinedOpcodes_of_decode h, fun h => ⟨_, decode_undefined h [b1, b2]⟩⟩,
    fun _ _ => step_undefined, exec_illegal⟩

end Machine
end Sys2Proof

/-! PROOFS of the statements about the 8-bit loads and stores (spec/40_load8.md): code and cost from the first byte,
then one lemma per form of load. -/

namespace Sys2Proof
open Sys2Proof.Machine

namespace Machine

/-! ### Code and cost from the first byte (R101, R310) -/

/-- Outside the second opcode map the first byte alone decides the cost, whatever operand bytes follow it. -/
theorem codedAs_of_firstByte {i : Instr} {op : Byte} {operands : List Byte} {n : Nat} (he : encode i = op :: operands)
    (h : op ≠ cbByte ∧ (defaultCycles op.toNat).1 = n ∧ conditionOf op.toNat = none) :
    CodedAs i (op :: operands) n := by
  obtain ⟨hcb, hn, hc⟩ := h
  have hkey : opcodeKey i = op.toNat := by simp only [opcodeKey, he, if_neg hcb]
  refine ⟨he, fun s hs => ?_⟩
  simp only [cycles, hkey, hc, hs, cyclePair, hn]

theorem codedAs_ldRegReg (d r : Reg8) : CodedAs (Forms.ldRegReg d r) [byteOf (0x40 + 8 * d.code + r.code)] 1 := by
  cases d <;> cases r <;> exact codedAs_of_firstByte rfl (by decide)

theorem codedAs_ldRegImm (d : Reg8) (n : Byte) : CodedAs (Forms.ldRegImm d n) [byteOf (0x06 + 8 * d.code), n] 2 := by
  cases d <;> exact codedAs_of_firstByte rfl (by decide)

theorem codedAs_ldRegMem (d : Reg8) : CodedAs (Forms.ldRegMem d) [byteOf (0x46 + 8 * d.code)] 2 := by
  cases d <;> exact codedAs_of_firstByte rfl (by decide)

theorem codedAs_ldMemReg (r : Reg8) : CodedAs (Forms.ldMemReg r) [byteOf (0x70 + r.code)] 2 := by
  cases r <;> exact codedAs_of_firstByte rfl (by decide)

/-! ### What a load leaves (R130 to R132, R135, R136, R139, R141, R143, R145, R147) -/

/-- After a register write the register holds the byte, and it is the only difference. -/
theorem State.setReg_loads (s : State) (d : Reg8) (v : Byte) :
    (s.setReg d v).reg d = v ∧ s.setReg d v = s.setReg d ((s.setReg d v).reg d) := by
  rw [State.reg_setReg_same]; exact ⟨rfl, rfl⟩

theorem readsThen_loadA {i : Instr} {addr : State → Word} (h : ∀ s, exec i s = loadRegMem .A (addr s) s) :
    ReadsThen i addr fun s v t => t = { s with a := v } :=
  readsThen_of h fun _ _ => ⟨_, rfl, rfl⟩

theorem readsThen_loadAndMoveHl {i : Instr} {step : Word} (h : ∀ s, exec i s = loadAndMoveHl step s) :
    ReadsThen i State.hl
      fun s v t => t.a = v ∧ t.hl = s.hl + step ∧ t = { s with a := t.a, h := t.h, l := t.l } :=
  readsThen_of h fun _ _ => ⟨_, rfl, rfl, State.hl_setHl _ _, rfl⟩

theorem readsThen_ldRegMem (d : Reg8) :
    ReadsThen (Forms.ldRegMem d) State.hl fun s v t => t.reg d = v ∧ t = s.setReg d (t.reg d) :=
  readsThen_of (exec_ldRegMem d) fun s v => ⟨_, rfl, s.setReg_loads d v⟩

/-- A load of A from the high page (R141, R143), with its address as a sum. -/
theorem readsThen_highPage {i : Instr} {offset : State → Byte}
    (h : ∀ s, exec i s = loadRegMem .A (highPage (offset s)) s) :
    ReadsThen i (fun s => BitVec.ofNat 16 (0xFF00 + (offset s).toNat)) fun s v t => t = { s with a := v } :=
  readsThen_loadA fun s => by rw [h, highPage_eq]

/-! ### What a store leaves (R133, R134, R137, R138, R140, R142, R144, R146, R148) -/

theorem exec_storeAndMoveHl {i : Instr} {step : Word} {s : State} (h : exec i s = storeAndMoveHl step s) :
    ∃ t, exec i s = .next t ∧ t.hl = s.hl + step ∧ t = { s.memWrite s.hl s.a with h := t.h, l := t.l } :=
  ⟨_, h, State.hl_setHl _ _, rfl⟩

end Machine

/-- Settles O34: each form is a register write of its operand, or one of the reading forms. -/
theorem loadByte : Obligations.LoadByte :=
  ⟨fun d r n =>
    ⟨codedAs_ldRegReg d r, fun s => ⟨_, exec_ldRegReg d r s, s.setReg_loads d (s.reg r)⟩,
      codedAs_ldRegImm d n, fun s => ⟨_, exec_ldRegImm d n s, s.setReg_loads d n⟩,
      codedAs_ldRegMem d, readsThen_ldRegMem d⟩,
    codedAs_of_firstByte rfl (by decide), readsThen_loadA fun _ => rfl,
    codedAs_of_firstByte rfl (by decide), readsThen_loadA fun _ => rfl,
    fun nn => ⟨codedAs_of_firstByte rfl (by decide), readsThen_loadA (addr := fun _ => nn) fun _ => rfl⟩,
    codedAs_of_firstByte rfl (by decide), readsThen_highPage fun _ => rfl,
    fun n => ⟨codedAs_of_firstByte rfl (by decide), readsThen_highPage (offset := fun _ => n) fun _ => rfl⟩,
    codedAs_of_firstByte rfl (by decide),
    by simpa only [BitVec.sub_eq_add_neg] using readsThen_loadAndMoveHl (i := .ld_A_mHLdec) fun _ => rfl,
    codedAs_of_firstByte rfl (by decide), readsThen_loadAndMoveHl fun _ => rfl⟩

/-- Settles O35: each form is one write through the dispatch, and two of them then move HL. -/
theorem storeByte : Obligations.StoreByte := fun s =>
  ⟨fun r => ⟨codedAs_ldMemReg r, exec_ldMemReg r s⟩,
    fun _ => ⟨codedAs_of_firstByte rfl (by decide), rfl⟩,
    codedAs_of_firstByte rfl (by decide), rfl,
    codedAs_of_firstByte rfl (by decide), rfl,
    fun _ => ⟨codedAs_of_firstByte rfl (by decide), rfl⟩,
    codedAs_of_firstByte rfl (by decide), by rw [← highPage_eq]; rfl,
    fun n => ⟨codedAs_of_firstByte rfl (by decide), by rw [← highPage_eq]; rfl⟩,
    codedAs_of_firstByte rfl (by decide), codedAs_of_firstByte rfl (by decide),
    by rw [BitVec.sub_eq_add_neg]; exact exec_storeAndMoveHl rfl, exec_storeAndMoveHl rfl⟩

end Sys2Proof

/-! PROOFS of the statements about the 16-bit loads and the stack (spec/41_load16.md): a word written to RAM, a stack
pair written, and the pop of a pushed word, which the three round trips share. -/

namespace Sys2Proof
open Sys2Proof.Machine

namespace Machine

/-! ### Code and cost (R151, R154, R155) -/

theorem codedAs_ldPairImm (p : Pair) (nn : Word) :
    CodedAs (Forms.ldPairImm p nn) [byteOf (0x01 + 16 * p.code), loByte nn, hiByte nn] 3 := by
  cases p <;> exact codedAs_of_firstByte rfl (by decide)

theorem codedAs_push (q : StackPair) : CodedAs (Forms.push q) [byteOf (0xC5 + 16 * q.code)] 4 := by
  cases q <;> exact codedAs_of_firstByte rfl (by decide)

theorem codedAs_pop (q : StackPair) : CodedAs (Forms.pop q) [byteOf (0xC1 + 16 * q.code)] 3 := by
  cases q <;> exact codedAs_of_firstByte rfl (by decide)

/-! ### A word written to memory (20_memory.md R52) -/

/-- A 16-bit write is two byte writes, low byte first, with the bytes as quotient and remainder. -/
theorem State.memWrite16_eq (s : State) (a w : Word) :
    s.memWrite16 a w =
      (s.memWrite a (BitVec.ofNat 8 (w.toNat % 256))).memWrite (a + 1) (BitVec.ofNat 8 (w.toNat / 256)) := by
  rw [State.memWrite16, ← loByte_toNat, ← hiByte_toNat]
  simp only [BitVec.ofNat_toNat, BitVec.setWidth_eq]

/-- What reads after a 16-bit write to RAM. -/
theorem State.memWrite16_reads (s : State) {a : Word} (w : Word) (h1 : ramAddr a.toNat = true)
    (h2 : ramAddr (a + 1).toNat = true) :
    (s.memWrite16 a w).memRead a = .ok (loByte w) ∧ (s.memWrite16 a w).memRead (a + 1) = .ok (hiByte w) ∧
      ∀ b, b ≠ a → b ≠ a + 1 → (s.memWrite16 a w).memRead b = s.memRead b := by
  have hne : a ≠ a + 1 := by bv_omega
  unfold State.memWrite16
  refine ⟨?low, State.memRead_memWrite_same _ h2 _, fun b hb1 hb2 => ?other⟩
  case low => rw [State.memRead_memWrite_other _ (ramAddr_ge h2) hne, State.memRead_memWrite_same _ h1]
  case other =>
    rw [State.memRead_memWrite_other _ (ramAddr_ge h2) hb2, State.memRead_memWrite_other _ (ramAddr_ge h1) hb1]

/-! ### A stack pair written (R21, R155) -/

/-- A stack pair written reads back, AF without its low nibble. -/
theorem State.stackPair_setStackPair_masked (s : State) (q : StackPair) (w : Word) :
    (s.setStackPair q w).stackPair q = if q = .AF then w &&& 0xFFF0 else w := by
  split
  · next h => subst h; exact word_mask_low w
  · next h => exact s.stackPair_setStackPair h w

/-- Writing what a written stack pair reads as is the same write: the low nibble is dropped once. -/
theorem State.setStackPair_stackPair (s : State) (q : StackPair) (w : Word) :
    s.setStackPair q ((s.setStackPair q w).stackPair q) = s.setStackPair q w := by
  cases q with
  | AF =>
    show s.setStackPair .AF (word (hiByte w) (loByte w &&& 0xF0)) = _
    simp only [State.setStackPair, hiByte_word, loByte_word, BitVec.and_assoc, BitVec.and_self]
  | BC | DE | HL => exact congrArg (s.setStackPair _) (word_hi_lo w)

theorem State.setStackPair_setSp (s : State) (q : StackPair) (sp w : Word) :
    ({ s with sp := sp } : State).setStackPair q w = { s.setStackPair q w with sp := sp } := by
  cases q <;> rfl

theorem State.stackPair_setSp (s : State) (q : StackPair) (sp : Word) :
    ({ s with sp := sp } : State).stackPair q = s.stackPair q := by
  cases q <;> rfl

/-- The pushed flags byte has a zero low nibble when F has. -/
theorem loByte_af {s : State} (h : s.FlagInv) : loByte s.af &&& 0x0F = 0 := by
  rw [State.af, loByte_word]
  exact h

/-! ### Push and pop (R150, R154, R155) -/

theorem exec_pop_ok {s : State} {lo hi : Byte} (h1 : s.memRead s.sp = .ok lo) (h2 : s.memRead (s.sp + 1) = .ok hi)
    (q : StackPair) :
    exec (Forms.pop q) s = .next { s.setStackPair q (word hi lo) with sp := s.sp + 2 } := by
  rw [exec_pop, popPair, withPop_ok h1 h2, State.setStackPair_setSp]

/-- The state in which the dispatch pushes PC: the request taken, no further dispatch (60_exceptions.md R281). -/
def State.acknowledged (s : State) : State :=
  { s with ime := false, eiCountdown := 0, mem := Memory.set s.mem ifAddr (s.iflag &&& 0xFE) }

theorem State.dispatch_eq_push16 (s : State) :
    s.dispatch = { s.acknowledged.push16 s.pc with pc := vblankVector } := rfl

theorem exec_ret (s : State) : exec .ret s = returnTo s := rfl

theorem exec_reti (s : State) : exec .reti s = returnFromInterrupt s := rfl

section RoundTrip
variable {s : State} (h1 : ramAddr (s.sp - 1).toNat = true) (h2 : ramAddr (s.sp - 2).toNat = true)
include h1 h2

/-- A pop after a push of `w` onto RAM goes on with `w` and the old SP, if `t` reads what the push left. -/
theorem withPop_of_push16 {t : State} {w : Word} (hr : ∀ a, t.memRead a = (s.push16 w).memRead a)
    (hsp : t.sp = s.sp - 2) (k : Word → State → Result) : withPop t k = k w { t with sp := s.sp } := by
  obtain ⟨hhi, hlo, -⟩ := s.push16_reads w h1 h2
  have e1 : s.sp - 2 + 1 = s.sp - 1 := by bv_omega
  have e2 : s.sp - 2 + 2 = s.sp := by bv_omega
  have hlo' : t.memRead t.sp = .ok (loByte w) := by rw [hr, hsp, hlo]
  have hhi' : t.memRead (t.sp + 1) = .ok (hiByte w) := by rw [hr, hsp, e1, hhi]
  rw [withPop_ok hlo' hhi', word_hi_lo, hsp, e2]

theorem exec_pop_push16 (q : StackPair) (w : Word) :
    exec (Forms.pop q) (s.push16 w) = .next { (s.push16 w).setStackPair q w with sp := s.sp } := by
  rw [exec_pop, popPair, withPop_of_push16 h1 h2 (fun _ => rfl) (s.push16_sp w), State.setStackPair_setSp]

theorem exec_ret_push16 (w pc : Word) :
    exec .ret { s.push16 w with pc := pc } = .next { s.push16 w with pc := w, sp := s.sp } := by
  rw [exec_ret, returnTo, withPop_of_push16 h1 h2 (State.memRead_setPc _ pc) (s.push16_sp w)]

theorem exec_reti_dispatch :
    exec .reti s.dispatch =
      .next { s.acknowledged.push16 s.pc with pc := s.pc, sp := s.sp, ime := true, eiCountdown := 0 } := by
  have hsp : (s.acknowledged.push16 s.pc).sp = s.sp - 2 := s.acknowledged.push16_sp s.pc
  rw [State.dispatch_eq_push16, exec_reti, returnFromInterrupt,
    withPop_of_push16 (s := s.acknowledged) h1 h2 (State.memRead_setPc _ vblankVector) hsp]
  rfl

end RoundTrip

end Machine

/-- Settles O36: the pair and SP are plain register writes, and SP goes to memory as a 16-bit write. -/
theorem loadPairs : Obligations.LoadPairs := fun s nn =>
  ⟨fun p => ⟨codedAs_ldPairImm p nn, exec_ldPairImm p nn s⟩,
    codedAs_of_firstByte rfl (by decide), rfl,
    codedAs_of_firstByte rfl (by decide),
    ⟨_, rfl, s.memWrite16_eq nn s.sp, s.memWrite16_reads s.sp⟩⟩

/-- Settles O37: a push is two byte writes, and a pop reads two bytes of which either may fault. -/
theorem pushAndPop : Obligations.PushAndPop := by
  intro q s
  refine ⟨codedAs_push q, codedAs_pop q, fun h hq => hq ▸ loByte_af h,
    ⟨_, exec_push q s, State.push16_writes s _, State.push16_reads s _⟩, fun lo hi h1 h2 => ?popped,
    fun r h => ?fault1, fun lo r h1 h2 => ?fault2⟩
  case popped =>
    refine ⟨_, exec_pop_ok h1 h2 q, ?_, ?_⟩
    · rw [State.stackPair_setSp, State.stackPair_setStackPair_masked, ← word_mask_low, hiByte_word, loByte_word]
    · rw [State.stackPair_setSp, State.setStackPair_stackPair]
  case fault1 => rw [exec_pop, popPair, withPop_error1 h]
  case fault2 => rw [exec_pop, popPair, withPop_error2 h1 h2]

/-- Settles O38: a pop, RET or RETI reads back the word that the push before it left in RAM. -/
theorem stackRoundTrips : Obligations.StackRoundTrips := fun s h1 h2 =>
  ⟨fun q q' => ⟨_, _, exec_push q s, exec_pop_push16 h1 h2 q' (s.stackPair q), rfl, by
      rw [State.stackPair_setSp, State.stackPair_setStackPair_masked]⟩,
    fun nn => ⟨_, _, rfl, exec_ret_push16 h1 h2 s.pc nn, rfl, rfl⟩,
    ⟨_, exec_reti_dispatch h1 h2, rfl, rfl, rfl⟩⟩

end Sys2Proof

/-! PROOFS of the statements about 8-bit arithmetic and logic (spec/42_alu8.md): what an operation leaves in A and F,
its three operand forms at once, and the decimal sum that DAA makes of a binary one. -/

namespace Sys2Proof
open Sys2Proof.Machine

namespace Machine

/-! ### A and F after an operation (R22, R160) -/

theorem State.setOutFlags_flags {s u : State} (hf : u.f = s.f) (out : AluOut) :
    (u.setOutFlags out).FlagsAre out.z out.n out.h out.c ∧ SameFlagLow s (u.setOutFlags out) :=
  flagsAre_setFlags hf rfl rfl rfl rfl

/-- The state in which `out` is the outcome of an operation on A: its result in A, its flags in F. -/
def State.accumulate (s : State) (out : AluOut) : State := (s.setReg .A out.res).setOutFlags out

@[simp] theorem State.accumulate_a (s : State) (out : AluOut) : (s.accumulate out).a = out.res := rfl

theorem State.accumulate_flags (s : State) (out : AluOut) :
    (s.accumulate out).FlagsAre out.z out.n out.h out.c ∧ SameFlagLow s (s.accumulate out) :=
  State.setOutFlags_flags (s.setReg_f .A _) out

theorem State.accumulate_frame (s : State) (out : AluOut) :
    s.accumulate out = { s with a := (s.accumulate out).a, f := (s.accumulate out).f } := rfl

theorem State.applyAlu_eq_accumulate (s : State) {op : AluOp} (h : op ≠ .cp) (v : Byte) :
    s.applyAlu op v = s.accumulate (aluOut op s.a v s.flagC) := by
  cases op with
  | cp => exact absurd rfl h
  | add | adc | sub | sbc | and | xor | or => rfl

/-- CP keeps the flags of the difference alone (R185). -/
theorem State.applyAlu_cp (s : State) (v : Byte) : s.applyAlu .cp v = s.setOutFlags (sub8 s.a v false) := rfl

theorem exec_daa (s : State) : exec .daa s = .next (s.accumulate (daa8 s.a s.flagN s.flagH s.flagC)) := rfl

/-! ### The three operand forms (R163) -/

/-- An accumulator operation whose effect on A and F is `post`, in its register, immediate and memory forms. -/
structure AluFormsMeet (op : AluOp) (post : State → Byte → State → Prop) : Prop where
  ofReg : ∀ r : Reg8, Completes (Forms.aluReg op r) (fun s => s.reg r) post
  ofImm : ∀ n : Byte, Completes (Forms.aluImm op n) (fun _ => n) post
  ofMem : ReadsThen (Forms.aluMem op) State.hl post

theorem aluFormsMeet_of {op : AluOp} {post : State → Byte → State → Prop}
    (h : ∀ s v, post s v (s.applyAlu op v)) : AluFormsMeet op post where
  ofReg r s := ⟨_, exec_aluReg op r s, h s _⟩
  ofImm n s := ⟨_, exec_aluImm op n s, h s n⟩
  ofMem := readsThen_of (exec_aluMem op) fun s v => ⟨_, rfl, h s v⟩

theorem aluFormsMeet_of_accumulate {op : AluOp} {post : State → Byte → State → Prop} (hop : op ≠ .cp)
    (h : ∀ s v, post s v (s.accumulate (aluOut op s.a v s.flagC))) : AluFormsMeet op post :=
  aluFormsMeet_of fun s v => s.applyAlu_eq_accumulate hop v ▸ h s v

theorem codedAs_aluReg (op : AluOp) (r : Reg8) :
    CodedAs (Forms.aluReg op r) [byteOf (0x80 + 8 * op.code + r.code)] 1 := by
  cases op <;> cases r <;> exact codedAs_of_firstByte rfl (by decide)

theorem codedAs_aluImm (op : AluOp) (n : Byte) : CodedAs (Forms.aluImm op n) [byteOf (0xC6 + 8 * op.code), n] 2 := by
  cases op <;> exact codedAs_of_firstByte rfl (by decide)

theorem codedAs_aluMem (op : AluOp) : CodedAs (Forms.aluMem op) [byteOf (0x86 + 8 * op.code)] 2 := by
  cases op <;> exact codedAs_of_firstByte rfl (by decide)

/-! ### Sums and differences (R161, R162, R164 to R175, R185 to R187) -/

theorem sumIs_add8 {cin : State → Nat} {s : State} {c : Bool} (hc : cin s = c.toNat) (v : Byte) :
    SumIs cin s v (s.accumulate (add8 s.a v c)) := by
  obtain ⟨hres, hz, hn, hh, hcarry⟩ := add8_spec s.a v c
  obtain ⟨hflags, hlow⟩ := s.accumulate_flags (add8 s.a v c)
  rw [hz, hn, hh, hcarry] at hflags
  rw [SumIs, hc]
  exact ⟨hres, hflags, hlow, s.accumulate_frame _⟩

theorem differenceIs_sub8 {cin : State → Nat} {s : State} {c : Bool} (hc : cin s = c.toNat) (v : Byte) :
    DifferenceIs true cin s v (s.accumulate (sub8 s.a v c)) ∧
      DifferenceIs false cin s v (s.setOutFlags (sub8 s.a v c)) := by
  obtain ⟨hres, hz, hn, hh, hcarry⟩ := sub8_spec s.a v c
  obtain ⟨hflags, hlow⟩ := s.accumulate_flags (sub8 s.a v c)
  rw [hz, hn, hh, hcarry] at hflags
  simp only [DifferenceIs, hc]
  exact ⟨⟨hres, hflags, hlow, s.accumulate_frame _⟩, ⟨rfl, hflags, hlow, rfl⟩⟩

theorem aluFormsMeet_add : AluFormsMeet .add (SumIs noCarry) :=
  aluFormsMeet_of_accumulate (by decide) fun _ v => sumIs_add8 rfl v

theorem aluFormsMeet_adc : AluFormsMeet .adc (SumIs oldCarry) :=
  aluFormsMeet_of_accumulate (by decide) fun _ v => sumIs_add8 rfl v

theorem aluFormsMeet_sub : AluFormsMeet .sub (DifferenceIs true noCarry) :=
  aluFormsMeet_of_accumulate (by decide) fun _ v => (differenceIs_sub8 rfl v).1

theorem aluFormsMeet_sbc : AluFormsMeet .sbc (DifferenceIs true oldCarry) :=
  aluFormsMeet_of_accumulate (by decide) fun _ v => (differenceIs_sub8 rfl v).1

theorem aluFormsMeet_cp : AluFormsMeet .cp (DifferenceIs false noCarry) :=
  aluFormsMeet_of fun s v => s.applyAlu_cp v ▸ (differenceIs_sub8 rfl v).2

/-! ### Bitwise operations (R176 to R184) -/

/-- An outcome that is `f` bit by bit, with the zero test and the fixed flags of R176, R179 and R182. -/
theorem bitwiseIs_of_bits {f : Bool → Bool → Bool} {half : Bool} {s : State} {v res : Byte}
    (hbits : ∀ b, res.getLsbD b = f (s.a.getLsbD b) (v.getLsbD b)) :
    BitwiseIs f half s v (s.accumulate ⟨res, res == 0, false, half, false⟩) := by
  obtain ⟨hflags, hlow⟩ := s.accumulate_flags ⟨res, res == 0, false, half, false⟩
  exact ⟨fun b _ => hbits b, Bool.beq_eq_decide_eq res 0 ▸ hflags, hlow, s.accumulate_frame _⟩

theorem aluFormsMeet_and : AluFormsMeet .and (BitwiseIs and true) :=
  aluFormsMeet_of_accumulate (by decide) fun _ _ => bitwiseIs_of_bits fun _ => BitVec.getLsbD_and

theorem aluFormsMeet_xor : AluFormsMeet .xor (BitwiseIs xor false) :=
  aluFormsMeet_of_accumulate (by decide) fun _ _ => bitwiseIs_of_bits fun _ => BitVec.getLsbD_xor

theorem aluFormsMeet_or : AluFormsMeet .or (BitwiseIs or false) :=
  aluFormsMeet_of_accumulate (by decide) fun _ _ => bitwiseIs_of_bits fun _ => BitVec.getLsbD_or

/-! ### Increment and decrement (R188 to R191) -/

theorem codedAs_incReg (r : Reg8) : CodedAs (Forms.incReg r) [byteOf (0x04 + 8 * r.code)] 1 := by
  cases r <;> exact codedAs_of_firstByte rfl (by decide)

theorem codedAs_decReg (r : Reg8) : CodedAs (Forms.decReg r) [byteOf (0x05 + 8 * r.code)] 1 := by
  cases r <;> exact codedAs_of_firstByte rfl (by decide)

/-- `INC` of a byte (R188), in numbers. -/
theorem inc8_spec (v : Byte) (c : Bool) :
    inc8 v c = ⟨byteOf ((v.toNat + 1) % 256), decide (v.toNat = 255), false, decide (v.toNat % 16 = 15), c⟩ := by
  obtain ⟨-, hz, hres, -⟩ := inc_dec_spec v
  rw [inc8, hz, hres]

/-- `DEC` of a byte (R190), in numbers. -/
theorem dec8_spec (v : Byte) (c : Bool) :
    dec8 v c = ⟨byteOf ((v.toNat + 255) % 256), decide (v.toNat = 1), true, decide (v.toNat % 16 = 0), c⟩ := by
  obtain ⟨-, -, -, -, hz, hres⟩ := inc_dec_spec v
  rw [dec8, hz, hres]

/-- The result of an operation in register `r`, its flags in F, and nothing else changed. -/
theorem State.setReg_setOutFlags_spec (s : State) (r : Reg8) {n : Nat} (hn : n < 256) (z m h c : Bool) :
    let t := (s.setReg r (byteOf n)).setOutFlags ⟨byteOf n, z, m, h, c⟩
    (t.reg r).toNat = n ∧ t.FlagsAre z m h c ∧ SameFlagLow s t ∧ t = { s.setReg r (t.reg r) with f := t.f } := by
  intro t
  have hreg : t.reg r = byteOf n := (State.reg_setFlags ..).trans (s.reg_setReg_same r _)
  obtain ⟨hflags, hlow⟩ := State.setOutFlags_flags (s.setReg_f r _) ⟨byteOf n, z, m, h, c⟩
  rw [hreg]
  exact ⟨Nat.mod_eq_of_lt hn, hflags, hlow, rfl⟩

/-- `INC (HL)` and `DEC (HL)`: the byte goes through the write dispatch, which leaves F alone (R189, R191). -/
theorem readsThen_modifyMem {i : Instr} {out : State → Byte → AluOut}
    (h : ∀ s, exec i s = modifyMem (out s) s) :
    ReadsThen i State.hl fun s v t =>
      t.FlagsAre (out s v).z (out s v).n (out s v).h (out s v).c ∧ SameFlagLow s t ∧
        t = { s.memWrite s.hl (out s v).res with f := t.f } := by
  refine readsThen_of h fun s v => ⟨_, rfl, ?_⟩
  obtain ⟨hflags, hlow⟩ := State.setOutFlags_flags (s.memWrite_f s.hl (out s v).res) (out s v)
  exact ⟨hflags, hlow, rfl⟩

/-! ### Decimal adjustment (R192) -/

theorem daa8_z (a : Byte) (n h c : Bool) : (daa8 a n h c).z = decide ((daa8 a n h c).res = 0) := by
  cases n <;> exact Bool.beq_eq_decide_eq _ _

theorem daa8_n_h (a : Byte) (n h c : Bool) : (daa8 a n h c).n = n ∧ (daa8 a n h c).h = false := by
  cases n <;> exact ⟨rfl, rfl⟩

/-- The adjusted binary sum of two packed decimal numbers, by the sums of their tens and of their units. -/
theorem adjusted_digit_sums {tens units : Nat} (ht : tens ≤ 18) (hu : units ≤ 18) :
    let out := adjusted ((16 * tens + units) % 256) false (decide (units > 15)) (decide (16 * tens + units > 255))
    out.2.toNat * 100 + out.1 / 16 * 10 + out.1 % 16 = 10 * tens + units ∧ out.1 / 16 < 10 ∧ out.1 % 16 < 10 := by
  have low : (decide (units > 15) || decide ((16 * tens + units) % 256 % 16 > 9)) = decide (units > 9) := by
    rw [Bool.eq_iff_iff]; simp only [Bool.or_eq_true, decide_eq_true_eq]; omega
  have high : (decide (16 * tens + units > 255) || decide ((16 * tens + units) % 256 > 0x99)) =
      decide (10 * tens + units > 99) := by
    rw [Bool.eq_iff_iff]; simp only [Bool.or_eq_true, decide_eq_true_eq]; omega
  simp only [adjusted, Bool.false_eq_true, if_false, low, high, decide_eq_true_eq]
  by_cases lowCarry : units > 9 <;> by_cases highCarry : 10 * tens + units > 99 <;>
    simp only [lowCarry, highCarry, if_true, if_false, decide_true, decide_false, Bool.toNat_true, Bool.toNat_false] <;>
    omega

end Machine

/-- Settles O44: ADD leaves the binary sum of the packed numbers with its two carries, which DAA adjusts. -/
theorem decimalAddition : Obligations.DecimalAddition := by
  intro s x y r hx hy hxa hyr
  obtain ⟨t, hadd, ha, ⟨-, hn, hh, hc⟩, -, -⟩ := aluFormsMeet_add.ofReg r s
  have hsum : s.a.toNat + (s.reg r).toNat + noCarry s = 16 * (x / 10 + y / 10) + (x % 10 + y % 10) := by
    rw [hxa, hyr, noCarry]; omega
  have hunits : s.a.toNat % 16 + (s.reg r).toNat % 16 + noCarry s = x % 10 + y % 10 := by
    rw [hxa, hyr, noCarry]; omega
  have hdecimal : x + y = 10 * (x / 10 + y / 10) + (x % 10 + y % 10) := by omega
  obtain ⟨hres, hcarry⟩ := daa8_spec t.flagN t.flagH t.flagC t.a
  obtain ⟨⟨-, -, -, huc⟩, -⟩ := t.accumulate_flags (daa8 t.a t.flagN t.flagH t.flagC)
  refine ⟨t, _, hadd, exec_daa t, ?_⟩
  rw [huc, State.accumulate_a, hres, hcarry, ha, hn, hh, hc, hsum, hunits, hdecimal]
  exact adjusted_digit_sums (by omega) (by omega)

/-- Settles O39: both are `Add8` into A, with no carry or the old carry, in three operand forms. -/
theorem addAndAddWithCarry : Obligations.AddAndAddWithCarry :=
  ⟨fun r => ⟨codedAs_aluReg .add r, aluFormsMeet_add.ofReg r, codedAs_aluReg .adc r, aluFormsMeet_adc.ofReg r⟩,
    fun n => ⟨codedAs_aluImm .add n, aluFormsMeet_add.ofImm n, codedAs_aluImm .adc n, aluFormsMeet_adc.ofImm n⟩,
    codedAs_aluMem .add, aluFormsMeet_add.ofMem, codedAs_aluMem .adc, aluFormsMeet_adc.ofMem⟩

/-- Settles O40: all three are `Sub8`, into A or, for CP, into the flags alone. -/
theorem subtractAndCompare : Obligations.SubtractAndCompare :=
  ⟨fun r => ⟨codedAs_aluReg .sub r, aluFormsMeet_sub.ofReg r, codedAs_aluReg .sbc r, aluFormsMeet_sbc.ofReg r,
      codedAs_aluReg .cp r, aluFormsMeet_cp.ofReg r⟩,
    fun n => ⟨codedAs_aluImm .sub n, aluFormsMeet_sub.ofImm n, codedAs_aluImm .sbc n, aluFormsMeet_sbc.ofImm n,
      codedAs_aluImm .cp n, aluFormsMeet_cp.ofImm n⟩,
    codedAs_aluMem .sub, aluFormsMeet_sub.ofMem, codedAs_aluMem .sbc, aluFormsMeet_sbc.ofMem,
    codedAs_aluMem .cp, aluFormsMeet_cp.ofMem⟩

/-- Settles O41: each operation is its bit function at every bit, with fixed N, H and C. -/
theorem bitwiseLogic : Obligations.BitwiseLogic :=
  ⟨fun r => ⟨codedAs_aluReg .and r, aluFormsMeet_and.ofReg r, codedAs_aluReg .xor r, aluFormsMeet_xor.ofReg r,
      codedAs_aluReg .or r, aluFormsMeet_or.ofReg r⟩,
    fun n => ⟨codedAs_aluImm .and n, aluFormsMeet_and.ofImm n, codedAs_aluImm .xor n, aluFormsMeet_xor.ofImm n,
      codedAs_aluImm .or n, aluFormsMeet_or.ofImm n⟩,
    codedAs_aluMem .and, aluFormsMeet_and.ofMem, codedAs_aluMem .xor, aluFormsMeet_xor.ofMem,
    codedAs_aluMem .or, aluFormsMeet_or.ofMem⟩

/-- Settles O42: the register forms write the numeric outcome to the register, the memory forms to the byte at HL. -/
theorem incrementDecrementByte : Obligations.IncrementDecrementByte := by
  refine ⟨fun r => ⟨codedAs_incReg r, codedAs_decReg r, fun s => ⟨⟨_, exec_incReg r s, ?incReg⟩,
    ⟨_, exec_decReg r s, ?decReg⟩⟩⟩, codedAs_of_firstByte rfl (by decide), codedAs_of_firstByte rfl (by decide),
    ?incMem, ?decMem⟩
  case incReg =>
    simp only [inc8_spec]
    exact s.setReg_setOutFlags_spec r (Nat.mod_lt _ (by decide)) _ _ _ _
  case decReg =>
    simp only [dec8_spec]
    exact s.setReg_setOutFlags_spec r (Nat.mod_lt _ (by decide)) _ _ _ _
  case incMem => simpa only [inc8_spec] using readsThen_modifyMem (i := .inc_mHL) fun _ => rfl
  case decMem => simpa only [dec8_spec] using readsThen_modifyMem (i := .dec_mHL) fun _ => rfl

/-- Settles O43: DAA is the numeric adjustment into A; the other three write fixed or kept flags. -/
theorem accumulatorAdjustments : Obligations.AccumulatorAdjustments := by
  refine ⟨codedAs_of_firstByte rfl (by decide), codedAs_of_firstByte rfl (by decide),
    codedAs_of_firstByte rfl (by decide), codedAs_of_firstByte rfl (by decide), fun s =>
    ⟨⟨_, exec_daa s, ?daa⟩, ⟨_, rfl, cpl_spec s.a, ?cpl⟩, ⟨_, rfl, ?scf⟩, ⟨_, rfl, ?ccf⟩⟩⟩
  case daa =>
    obtain ⟨hres, hc⟩ := daa8_spec s.flagN s.flagH s.flagC s.a
    obtain ⟨hn, hh⟩ := daa8_n_h s.a s.flagN s.flagH s.flagC
    obtain ⟨hflags, hlow⟩ := s.accumulate_flags (daa8 s.a s.flagN s.flagH s.flagC)
    rw [daa8_z, hn, hh, hc] at hflags
    exact ⟨hres, hflags, hlow, s.accumulate_frame _⟩
  case cpl | scf | ccf =>
    obtain ⟨hflags, hlow⟩ := flagsAre_setFlags rfl rfl rfl rfl rfl
    exact ⟨hflags, hlow, rfl⟩

end Sys2Proof

/-! PROOFS of the statements about 16-bit arithmetic (spec/43_alu16.md): code and cost of the pair
forms, a pair written with a word, and the flags that a word sum gives, in numbers. -/

namespace Sys2Proof
open Sys2Proof.Machine

namespace Machine

/-! ### Code and cost (R200 to R202) -/

theorem codedAs_addHlPair (p : Pair) : CodedAs (Forms.addHlPair p) [byteOf (0x09 + 16 * p.code)] 2 := by
  cases p <;> exact codedAs_of_firstByte rfl (by decide)

theorem codedAs_incPair (p : Pair) : CodedAs (Forms.incPair p) [byteOf (0x03 + 16 * p.code)] 2 := by
  cases p <;> exact codedAs_of_firstByte rfl (by decide)

theorem codedAs_decPair (p : Pair) : CodedAs (Forms.decPair p) [byteOf (0x0B + 16 * p.code)] 2 := by
  cases p <;> exact codedAs_of_firstByte rfl (by decide)

/-! ### A pair written (R21, R201, R202) -/

/-- After a pair write the pair holds the word's value, and it is the only difference. -/
theorem State.setPair_loads (s : State) (p : Pair) {w : Word} {n : Nat} (hw : w.toNat = n) :
    ((s.setPair p w).pair p).toNat = n ∧ s.setPair p w = s.setPair p ((s.setPair p w).pair p) := by
  rw [State.pair_setPair]; exact ⟨hw, rfl⟩

/-! ### The flags of a word sum (R22, R200, R156, R203) -/

theorem State.setAddPairFlags_spec (s : State) (p : Pair) :
    let t := s.setFlags s.flagZ false (addPairHalf s.hl (s.pair p)) (addPairCarry s.hl (s.pair p))
    t.FlagsAre s.flagZ false (decide (s.hl.toNat % 4096 + (s.pair p).toNat % 4096 > 4095))
      (decide (s.hl.toNat + (s.pair p).toNat > 65535)) ∧ SameFlagLow s t :=
  flagsAre_setFlags rfl rfl rfl rfl rfl

theorem State.setSpOffsetFlags_spec (s : State) (e : Byte) :
    (s.setSpOffsetFlags e).FlagsAre false false (decide (s.sp.toNat % 16 + e.toNat % 16 > 15))
      (decide (s.sp.toNat % 256 + e.toNat > 255)) ∧ SameFlagLow s (s.setSpOffsetFlags e) :=
  flagsAre_setFlags rfl rfl rfl rfl rfl

end Machine

/-- Settles O45: each form writes its sum to HL, SP or the pair; ADD HL and the SP+e forms also write the flags. -/
theorem wordArithmetic : Obligations.WordArithmetic := by
  refine fun p e => ⟨codedAs_addHlPair p, codedAs_incPair p, codedAs_decPair p,
    codedAs_of_firstByte rfl (by decide), codedAs_of_firstByte rfl (by decide), fun s =>
    ⟨⟨_, exec_addHlPair p s, ?addHl⟩, ⟨_, exec_incPair p s, s.setPair_loads p (BitVec.toNat_add ..)⟩,
      ⟨_, exec_decPair p s, s.setPair_loads p ?dec⟩, ⟨_, rfl, ?ldHl⟩, ⟨_, rfl, ?addSp⟩⟩⟩
  case addHl =>
    obtain ⟨hflags, hlow⟩ := s.setAddPairFlags_spec p
    exact ⟨by rw [State.hl_setHl]; exact BitVec.toNat_add .., hflags, hlow, rfl⟩
  case dec => bv_omega
  case ldHl =>
    obtain ⟨hflags, hlow⟩ := s.setSpOffsetFlags_spec e
    exact ⟨by rw [State.hl_setHl]; exact toNat_add_sext16 s.sp e, hflags, hlow, rfl⟩
  case addSp =>
    obtain ⟨hflags, hlow⟩ := s.setSpOffsetFlags_spec e
    exact ⟨toNat_add_sext16 s.sp e, hflags, hlow, rfl⟩

end Sys2Proof

/-! PROOFS of the statements about rotates, shifts and bits (spec/44_rotate_shift_bit.md): code and cost from the
second byte, what a rotate leaves in a register and in F, and the flags of BIT. -/

namespace Sys2Proof
open Sys2Proof.Machine

namespace Machine

/-! ### Code and cost from the second byte (R103, R116, R117, R310) -/

/-- In the second opcode map the second byte alone decides the cost, and no instruction is conditional. -/
theorem codedAs_of_secondByte {i : Instr} {op2 : Byte} {n : Nat} (he : encode i = [cbByte, op2])
    (hn : (cbCycles op2.toNat).1 = n) : CodedAs i [cbByte, op2] n := by
  have hkey : opcodeKey i = 0xCB00 + op2.toNat := by simp only [opcodeKey, he, if_pos, List.headD_cons]
  have hcond : conditionOf (0xCB00 + op2.toNat) = none := by
    rw [conditionOf, if_neg (by omega), if_neg (by omega)]
  have hcost : defaultCycles (0xCB00 + op2.toNat) = cbCycles op2.toNat := by
    have := op2.isLt
    rw [defaultCycles, if_neg (by omega), show (0xCB00 + op2.toNat) % 0x100 = op2.toNat by omega]
  refine ⟨he, fun s hs => ?_⟩
  simp only [cycles, hkey, hcond, hs, cyclePair, hcost, hn]

theorem codedAs_rotReg (op : RotOp) (r : Reg8) :
    CodedAs (Forms.rotReg op r) [0xCB, byteOf (8 * op.code + r.code)] 2 := by
  cases op <;> cases r <;> exact codedAs_of_secondByte rfl (by decide)

theorem codedAs_rotMem (op : RotOp) : CodedAs (Forms.rotMem op) [0xCB, byteOf (8 * op.code + 6)] 4 := by
  cases op <;> exact codedAs_of_secondByte rfl (by decide)

theorem codedAs_bitReg (b : Oct) (r : Reg8) :
    CodedAs (Forms.bitReg b r) [0xCB, byteOf (0x40 + 8 * b.toNat + r.code)] 2 := by
  cases b <;> cases r <;> exact codedAs_of_secondByte rfl (by decide)

theorem codedAs_resReg (b : Oct) (r : Reg8) :
    CodedAs (Forms.resReg b r) [0xCB, byteOf (0x80 + 8 * b.toNat + r.code)] 2 := by
  cases b <;> cases r <;> exact codedAs_of_secondByte rfl (by decide)

theorem codedAs_setReg (b : Oct) (r : Reg8) :
    CodedAs (Forms.setReg b r) [0xCB, byteOf (0xC0 + 8 * b.toNat + r.code)] 2 := by
  cases b <;> cases r <;> exact codedAs_of_secondByte rfl (by decide)

theorem codedAs_bitMem (b : Oct) : CodedAs (Forms.bitMem b) [0xCB, byteOf (0x46 + 8 * b.toNat)] 3 := by
  cases b <;> exact codedAs_of_secondByte rfl (by decide)

theorem codedAs_resMem (b : Oct) : CodedAs (Forms.resMem b) [0xCB, byteOf (0x86 + 8 * b.toNat)] 4 := by
  cases b <;> exact codedAs_of_secondByte rfl (by decide)

theorem codedAs_setMem (b : Oct) : CodedAs (Forms.setMem b) [0xCB, byteOf (0xC6 + 8 * b.toNat)] 4 := by
  cases b <;> exact codedAs_of_secondByte rfl (by decide)

/-! ### Rotates and shifts (R208 to R229) -/

theorem exec_accumulatorRotate {op : RotOp} {i : Instr}
    (h : (op = .rlc ∧ i = .rlca) ∨ (op = .rrc ∧ i = .rrca) ∨ (op = .rl ∧ i = .rla) ∨ (op = .rr ∧ i = .rra))
    (s : State) : exec i s = rotAccumulator op s := by
  rcases h with ⟨rfl, rfl⟩ | ⟨rfl, rfl⟩ | ⟨rfl, rfl⟩ | ⟨rfl, rfl⟩ <;> rfl

/-- The shifted byte in register `r`, its carry in F beside a Z flag of the caller's choice, and nothing else
changed. -/
theorem State.setReg_rotOut_spec (s : State) (op : RotOp) (r : Reg8) {z z' : Bool} (hz : z = z') :
    let out := rotOut op (s.reg r) s.flagC
    let t := (s.setReg r out.1).setFlags z false false out.2
    (t.reg r).toNat = (shifted op (s.reg r).toNat s.flagC.toNat).1 ∧
      t.FlagsAre z' false false (decide ((shifted op (s.reg r).toNat s.flagC.toNat).2 = 1)) ∧
      SameFlagLow s t ∧ t = { s.setReg r (t.reg r) with f := t.f } := by
  intro out t
  obtain ⟨hres, hcarry, -⟩ := rotOut_spec op s.flagC (s.reg r)
  obtain ⟨hflags, hlow⟩ := flagsAre_setFlags (s.setReg_f r out.1) hz rfl rfl hcarry
  have hreg : t.reg r = out.1 := (State.reg_setFlags ..).trans (s.reg_setReg_same r _)
  rw [hreg]
  exact ⟨hres, hflags, hlow, rfl⟩

/-! ### Bits (R230 to R235) -/

/-- BIT writes the inverse of the tested bit to Z, with C kept, and F alone. -/
theorem State.testBitFlags_spec (s : State) (b : Oct) (v : Byte) :
    (s.testBitFlags b v).FlagsAre (decide (v.toNat / 2 ^ b.toNat % 2 = 0)) false true s.flagC ∧
      SameFlagLow s (s.testBitFlags b v) ∧ s.testBitFlags b v = { s with f := (s.testBitFlags b v).f } := by
  obtain ⟨hbit, -⟩ := bit_spec b v
  obtain ⟨hflags, hlow⟩ := flagsAre_setFlags (s := s) (u := s) rfl hbit rfl rfl rfl
  exact ⟨hflags, hlow, rfl⟩

theorem clearBit_bits (b : Oct) (v : Byte) (k : Nat) (hk : k < 8) :
    (clearBit b v).getLsbD k = if k = b.toNat then false else v.getLsbD k :=
  ((bit_spec b v).2 k hk).1

theorem raiseBit_bits (b : Oct) (v : Byte) (k : Nat) (hk : k < 8) :
    (raiseBit b v).getLsbD k = if k = b.toNat then true else v.getLsbD k :=
  ((bit_spec b v).2 k hk).2

end Machine

/-- Settles O46: each is the rotate of R208 on A, with a Z flag that is always clear. -/
theorem accumulatorRotates : Obligations.AccumulatorRotates :=
  ⟨codedAs_of_firstByte rfl (by decide), codedAs_of_firstByte rfl (by decide),
    codedAs_of_firstByte rfl (by decide), codedAs_of_firstByte rfl (by decide),
    fun op _ s h => ⟨_, exec_accumulatorRotate h s, s.setReg_rotOut_spec op .A rfl⟩⟩

/-- Settles O47: the shifted byte goes to the register, and Z tests what the register then holds. -/
theorem rotateShiftRegister : Obligations.RotateShiftRegister := by
  refine fun op r => ⟨codedAs_rotReg op r, fun s => ⟨_, exec_rotReg op r s, s.setReg_rotOut_spec op r ?zero⟩⟩
  case zero => rw [State.reg_setFlags, State.reg_setReg_same]; exact Bool.beq_eq_decide_eq _ _

/-- Settles O48: the shifted byte goes through the write dispatch, which leaves F alone; Z tests the shifted byte. -/
theorem rotateShiftMemory : Obligations.RotateShiftMemory := by
  refine fun op => ⟨codedAs_rotMem op, readsThen_of (exec_rotMem op) fun s v => ⟨_, rfl, ?_⟩⟩
  obtain ⟨-, hcarry, hres, hzero⟩ := rotOut_spec op s.flagC v
  obtain ⟨hflags, hlow⟩ := flagsAre_setFlags (s.memWrite_f s.hl (rotOut op v s.flagC).1) hzero rfl rfl hcarry
  exact ⟨hflags, hlow, by rw [← hres]; rfl⟩

/-- Settles O49: BIT writes the flags of the tested bit; RES and SET write the byte with that bit cleared or raised. -/
theorem bitInstructions : Obligations.BitInstructions := fun b =>
  ⟨fun r => ⟨codedAs_bitReg b r, codedAs_resReg b r, codedAs_setReg b r, fun s =>
      ⟨⟨_, exec_bitReg b r s, s.testBitFlags_spec b (s.reg r)⟩,
        ⟨_, exec_resReg b r s, by rw [State.reg_setReg_same]; exact ⟨rfl, clearBit_bits b (s.reg r)⟩⟩,
        ⟨_, exec_setReg b r s, by rw [State.reg_setReg_same]; exact ⟨rfl, raiseBit_bits b (s.reg r)⟩⟩⟩⟩,
    codedAs_bitMem b, codedAs_resMem b, codedAs_setMem b,
    readsThen_of (exec_bitMem b) fun s v => ⟨_, rfl, s.testBitFlags_spec b v⟩,
    readsThen_of (exec_resMem b) fun _ v => ⟨_, rfl, _, rfl, clearBit_bits b v⟩,
    readsThen_of (exec_setMem b) fun _ v => ⟨_, rfl, _, rfl, raiseBit_bits b v⟩⟩

end Sys2Proof

/-! PROOFS of the statements about control transfer (spec/45_control.md): code and cost of the conditional forms from
the first byte, then what a jump, a call and a return leave. -/

namespace Sys2Proof
open Sys2Proof.Machine

namespace Machine

/-! ### Code and cost (R101, R242, R245, R247, R249, R251) -/

/-- Outside the second opcode map the first byte alone decides the condition and both costs. -/
theorem codedAsIf_of_firstByte {i : Instr} {op : Byte} {operands : List Byte} {cc : Cond} {n m : Nat}
    (he : encode i = op :: operands)
    (h : op ≠ cbByte ∧ defaultCycles op.toNat = (n, m) ∧ conditionOf op.toNat = some cc) :
    CodedAsIf i (op :: operands) cc n m := by
  obtain ⟨hcb, hn, hc⟩ := h
  have hkey : opcodeKey i = op.toNat := by simp only [opcodeKey, he, if_neg hcb]
  exact codedAsIf_of i he rfl (hkey ▸ hn) (hkey ▸ hc)

theorem codedAsIf_jpCond (cc : Cond) (nn : Word) :
    CodedAsIf (Forms.jpCond cc nn) [byteOf (0xC2 + 8 * cc.code), loByte nn, hiByte nn] cc 4 3 := by
  cases cc <;> exact codedAsIf_of_firstByte rfl (by decide)

theorem codedAsIf_jrCond (cc : Cond) (e : Byte) :
    CodedAsIf (Forms.jrCond cc e) [byteOf (0x20 + 8 * cc.code), e] cc 3 2 := by
  cases cc <;> exact codedAsIf_of_firstByte rfl (by decide)

theorem codedAsIf_callCond (cc : Cond) (nn : Word) :
    CodedAsIf (Forms.callCond cc nn) [byteOf (0xC4 + 8 * cc.code), loByte nn, hiByte nn] cc 6 3 := by
  cases cc <;> exact codedAsIf_of_firstByte rfl (by decide)

theorem codedAsIf_retCond (cc : Cond) : CodedAsIf (Forms.retCond cc) [byteOf (0xC0 + 8 * cc.code)] cc 5 2 := by
  cases cc <;> exact codedAsIf_of_firstByte rfl (by decide)

theorem codedAs_rst (y : Oct) : CodedAs (Forms.rst y) [byteOf (0xC7 + 8 * y.toNat)] 4 := by
  cases y <;> exact codedAs_of_firstByte rfl (by decide)

/-! ### Jumps (R240, R242, R245) -/

/-- A conditional jump writes PC alone, with the old PC where the condition fails. -/
theorem jumpIf_eq (cc : Cond) (target : Word) (s : State) :
    jumpIf cc target s = .next { s with pc := if s.cond cc then target else s.pc } := by
  cases h : s.cond cc <;> simp only [jumpIf, h] <;> rfl

/-! ### Calls (R246, R251) -/

/-- A call is the two writes of the push, and then SP and PC. -/
theorem callTo_eq (target : Word) (s : State) :
    callTo target s =
      .next { (s.memWrite (s.sp - 1) (hiByte s.pc)).memWrite (s.sp - 2) (loByte s.pc) with
        sp := s.sp - 2, pc := target } := by
  rw [callTo, State.push16_writes]

/-! ### Returns (R248 to R250) -/

section Popped
variable {s : State} {lo hi : Byte} (h1 : s.memRead s.sp = .ok lo) (h2 : s.memRead (s.sp + 1) = .ok hi)
include h1 h2

theorem returnTo_ok : returnTo s = .next { s with sp := s.sp + 2, pc := word hi lo } := by
  rw [returnTo, withPop_ok h1 h2]

theorem returnFromInterrupt_ok :
    returnFromInterrupt s = .next { s with sp := s.sp + 2, pc := word hi lo, ime := true, eiCountdown := 0 } := by
  rw [returnFromInterrupt, withPop_ok h1 h2]

end Popped

theorem exec_retCond_taken {cc : Cond} {s : State} (h : s.cond cc = true) : exec (Forms.retCond cc) s = returnTo s := by
  rw [exec_retCond, returnIf, if_pos h]

theorem exec_retCond_untaken {cc : Cond} {s : State} (h : s.cond cc = false) : exec (Forms.retCond cc) s = .next s := by
  rw [exec_retCond, returnIf, h, if_neg Bool.false_ne_true]

/-- Every return that is made begins with a pop, so it has the faults of one. -/
theorem exec_return_eq_withPop {i : Instr} {s : State}
    (h : i = .ret ∨ i = .reti ∨ ∃ cc, i = Forms.retCond cc ∧ s.cond cc = true) : ∃ k, exec i s = withPop s k := by
  rcases h with rfl | rfl | ⟨cc, rfl, hc⟩
  · exact ⟨_, exec_ret s⟩
  · exact ⟨_, exec_reti s⟩
  · exact ⟨_, exec_retCond_taken hc⟩

end Machine

/-- Settles O50: each form writes PC alone, JR by a signed sum. -/
theorem jumps : Obligations.Jumps := by
  refine ⟨fun s cc => by cases cc <;> rfl,
    fun nn => ⟨codedAs_of_firstByte rfl (by decide), fun _ => rfl,
      fun cc => ⟨codedAsIf_jpCond cc nn, fun s => (exec_jpCond cc nn s).trans (jumpIf_eq cc nn s)⟩⟩,
    codedAs_of_firstByte rfl (by decide), fun _ => rfl,
    fun e => ⟨codedAs_of_firstByte rfl (by decide), fun s => ⟨_, rfl, toNat_add_sext16 s.pc e, rfl⟩,
      fun cc => ⟨codedAsIf_jrCond cc e, fun s => ⟨_, (exec_jrCond cc e s).trans (jumpIf_eq cc _ s), ?target, rfl⟩⟩⟩⟩
  case target =>
    cases s.cond cc with
    | true => exact toNat_add_sext16 s.pc e
    | false => rfl

/-- Settles O51: each form is a call of its target, or leaves the state where its condition fails. -/
theorem callsAndRestarts : Obligations.CallsAndRestarts := by
  refine fun s => ⟨fun nn => ⟨codedAs_of_firstByte rfl (by decide), callTo_eq nn s,
      fun cc => ⟨codedAsIf_callCond cc nn, ?callCond⟩⟩,
    fun y => ⟨codedAs_rst y, (exec_rst y s).trans (callTo_eq _ s)⟩⟩
  case callCond => rw [exec_callCond, callIf, callTo_eq]; split <;> rfl

/-- Settles O52: a return made is a pop into PC, of which either read may fault; RETI besides writes IME and the EI
countdown. -/
theorem returns : Obligations.Returns := by
  refine ⟨codedAs_of_firstByte rfl (by decide), codedAs_of_firstByte rfl (by decide),
    fun cc => ⟨codedAsIf_retCond cc, fun _ => exec_retCond_untaken⟩,
    fun s => ⟨fun lo hi h1 h2 => ⟨(exec_ret s).trans (returnTo_ok h1 h2),
        (exec_reti s).trans (returnFromInterrupt_ok h1 h2),
        fun cc hc => (exec_retCond_taken hc).trans (returnTo_ok h1 h2)⟩,
      fun i hi => ?faults⟩⟩
  case faults =>
    obtain ⟨k, hk⟩ := exec_return_eq_withPop hi
    exact ⟨fun r h => hk.trans (withPop_error1 h k), fun lo r h1 h2 => hk.trans (withPop_error2 h1 h2 k)⟩

end Sys2Proof

/-! PROOFS of the statements about the system instructions (spec/46_system.md): what EI and an instruction under a
running countdown leave, then the steps that run them. -/

namespace Sys2Proof
open Sys2Proof.Machine

namespace Machine

/-! ### EI and its countdown (R258, R259) -/

/-- EI with no delay. -/
theorem exec_ei_immediate {s : State} (h : s.params.eiDelay = 0) : exec .ei s = .next { s with ime := true } :=
  if_pos h

/-- EI with a delay. -/
theorem exec_ei_delayed {s : State} (h : s.params.eiDelay ≠ 0) :
    exec .ei s = .next { s with eiCountdown := if s.eiCountdown = 0 then 2 else s.eiCountdown } := by
  change execEi s = _
  rw [execEi, if_neg h]
  split <;> rfl

/-- Under a countdown at 1, every instruction but DI leaves it there for step 6, or, as RETI, has itself set IME. -/
theorem exec_under_countdown {i : Instr} {s t : State} (h : exec i s = .next t) (hi : i ≠ .di) (hf : t.fault = none)
    (hc : s.eiCountdown = 1) : t.eiCountdown = 1 ∨ (t.ime = true ∧ t.eiCountdown = 0) := by
  by_cases hw : writesIme i = true
  · unfold writesIme at hw
    split at hw
    · exact absurd rfl hi
    · by_cases hd : s.params.eiDelay = 0
      · rw [exec_ei_immediate hd] at h; cases h
        exact .inl hc
      · rw [exec_ei_delayed hd] at h; cases h
        exact .inl (by simp [hc])
    · rw [exec_reti, returnFromInterrupt] at h
      obtain ⟨w, h⟩ | ⟨r, -, rfl⟩ | ⟨r, -, rfl⟩ := withPop_next h
      · cases h; exact .inr ⟨rfl, rfl⟩
      · cases hf
      · cases hf
    · cases hw
  · exact .inl ((exec_ime_frame h (Bool.eq_false_iff.2 hw)).2.trans hc)

/-- Step 6 ends such an instruction with IME set and no countdown. -/
theorem State.countEi_enables {s : State} (h : s.eiCountdown = 1 ∨ (s.ime = true ∧ s.eiCountdown = 0)) :
    s.countEi.ime = true ∧ s.countEi.eiCountdown = 0 := by
  rw [State.countEi_eq]
  obtain h | ⟨hi, h⟩ := h
  · simp [h]
  · simp [h, hi]

/-! ### The steps that run them (60_exceptions.md R270) -/

/-- The step of an instruction that raises no fault. -/
theorem step_of_exec {s u t : State} {i : Instr} (hs : s.Fetches) (hf : s.fetchDecode = .instr i u)
    (he : exec i u = .next t) (ht : t.fault = none) : step s = .next (t.countEi.tick (cycles i u)) := by
  rw [step_of_fetchDecode hs hf]
  simp only [finishInstr, he, State.endStep_none ht]

/-- A step that fetches and raises no fault ran the fetched instruction and steps 6 and 7. -/
theorem step_fetches_cases {s t : State} (hs : s.Fetches) (h : step s = .next t) (ht : t.fault = none) :
    ∃ i u v, s.fetchDecode = .instr i u ∧ exec i u = .next v ∧ v.fault = none ∧ t = v.countEi.tick (cycles i u) := by
  have hb := beginStep_of_fetches hs
  have ⟨_, hhalt, _, hint⟩ := hs
  cases step_cases h with
  | dispatch hd _ => rw [hb, hint] at hd; cases hd
  | idle _ hh _ => rw [hb, hhalt] at hh; cases hh
  | fetchFault _ _ hf =>
    obtain ⟨j, _, r, _, rfl⟩ := fetchDecode_raised hf
    cases ht
  | instr i u v _ _ hf he hv =>
    cases hvf : v.fault with
    | some r => rw [hv, State.endStep_some hvf, hvf] at ht; cases ht
    | none => exact ⟨i, u, v, hb ▸ hf, he, hvf, by rw [hv, State.endStep_none hvf]⟩

/-- The code of DI is the first byte of no other instruction. -/
theorem encode_head_of_ne_di {i : Instr} (hw : i.wellFormed = true) (hi : i ≠ .di) :
    ∃ op operands, encode i = op :: operands ∧ op ≠ 0xF3 := by
  cases i with
  | di => exact absurd rfl hi
  | illegal op =>
    refine ⟨op, [], rfl, ?_⟩
    rintro rfl
    exact absurd hw (by decide)
  | _ => exact ⟨_, _, rfl, ne_of_beq_false rfl⟩

/-- Where the bytes at PC are the code of another instruction, DI is not fetched. -/
theorem fetched_ne_di {s u : State} {i j : Instr} (hw : i.wellFormed = true) (hi : i ≠ .di)
    (hb : BytesAt s s.pc (encode i)) (hf : s.fetchDecode = .instr j u) : j ≠ .di := by
  rintro rfl
  obtain ⟨op, operands, he, hop⟩ := encode_head_of_ne_di hw hi
  rw [he] at hb
  have hread : s.memRead s.pc = .ok 0xF3 := memRead_of_fetchDecode hf (by decide)
  exact hop (Except.ok.inj (hb.1.symm.trans hread))

section OneStep
variable {s : State} (hs : s.Fetches)
include hs

theorem step_ei (hb : BytesAt s s.pc (encode .ei)) (hd : s.params.eiDelay ≠ 0) (hc : s.eiCountdown = 0) :
    ∃ t, step s = .next t ∧ t.ime = s.ime ∧ t.eiCountdown = 1 := by
  refine ⟨_, step_of_exec hs (fetchDecode_of_bytesAt hb rfl rfl) (exec_ei_delayed hd) hs.1.1, ?_, ?_⟩ <;>
    simp [State.countEi_eq, hc]

theorem step_di (hb : BytesAt s s.pc (encode .di)) :
    ∃ t, step s = .next t ∧ t.ime = false ∧ t.eiCountdown = 0 := by
  refine ⟨_, step_of_exec hs (fetchDecode_of_bytesAt hb rfl rfl) rfl hs.1.1, ?_, ?_⟩ <;>
    simp [State.countEi_eq]

theorem step_under_countdown {i : Instr} {t : State} (hw : i.wellFormed = true) (hb : BytesAt s s.pc (encode i))
    (hi : i ≠ .di) (hc : s.eiCountdown = 1) (h : step s = .next t) (ht : t.fault = none) :
    t.ime = true ∧ t.eiCountdown = 0 := by
  obtain ⟨j, u, v, hf, he, hv, rfl⟩ := step_fetches_cases hs h ht
  obtain ⟨_, _, _, _, _, _, rfl⟩ := fetchDecode_instr hf
  rw [State.tick_ime, State.tick_eiCountdown]
  exact State.countEi_enables (exec_under_countdown he (fetched_ne_di hw hi hb hf) hv hc)

end OneStep

end Machine

/-- Settles O15: EI starts the countdown at 2, of which its own step 6 takes one; the next instruction leaves 1 to its
step 6, or is RETI; DI writes both. -/
theorem eiTakesEffectOneInstructionLater : Obligations.EiTakesEffectOneInstructionLater := by
  refine fun s i hs hw hb hd => ⟨?ei, fun hi hc t h ht => step_under_countdown hs hw hb hi hc h ht, ?di⟩
  case ei => rintro rfl hc; exact step_ei hs hb (by rw [hd]; decide) hc
  case di => rintro rfl; exact step_di hs hb

/-- Settles O53: each form writes its latches; STOP ignores its second byte. -/
theorem systemInstructions : Obligations.SystemInstructions :=
  ⟨codedAs_of_firstByte rfl (by decide), codedAs_of_firstByte rfl (by decide),
    fun _ => codedAs_of_firstByte rfl (by decide), codedAs_of_firstByte rfl (by decide),
    codedAs_of_firstByte rfl (by decide),
    fun _ => ⟨rfl, rfl, fun _ => rfl, rfl, exec_ei_immediate, fun h => exec_ei_delayed (by rw [h]; decide)⟩⟩

end Sys2Proof

/-! PROOFS of the statements about the machine step, time and the host (spec/60_exceptions.md): the fetch of an encoded
instruction and its faults, steps 1 and 2, the dispatch, one pass of each counter loop, and the host's moves. -/

namespace Sys2Proof
open Sys2Proof.Machine

/-! ### The decoder on encoded instructions (30_encoding.md R100, R101) -/

/-- Encoded bytes decode to their instruction: a 16-bit operand is joined from its two bytes, and the rest of each row
is the decoder evaluated. -/
theorem decode_encode_append {i : Instr} (h : i.wellFormed = true) (rest : List Byte) :
    decode (encode i ++ rest) = .ok (i, rest) := by
  cases i with
  | illegal op => exact decode_undefined (List.contains_iff_mem.1 h) rest
  | ld_BC_nn nn | ld_DE_nn nn | ld_HL_nn nn | ld_SP_nn nn | ld_mnn_SP nn | ld_mnn_A nn | ld_A_mnn nn | jp_nn nn
  | jp_NZ_nn nn | jp_Z_nn nn | jp_NC_nn nn | jp_C_nn nn | call_nn nn | call_NZ_nn nn | call_Z_nn nn | call_NC_nn nn
  | call_C_nn nn =>
    conv_rhs => rw [← word_hi_lo nn]
    rfl
  | _ => rfl

/-- The bytes of one whole instruction are as many as its first byte asks for. -/
theorem instrLength_of_decode {op : Byte} {bs : List Byte} {i : Instr} (h : decode (op :: bs) = .ok (i, [])) :
    instrLength op = bs.length + 1 := by
  obtain ⟨op2, hbs, -⟩ | ⟨op', b1, b2, hcb, hbs, -⟩ := decode_cases h
  · obtain ⟨rfl, rfl⟩ := List.cons.inj hbs
    rfl
  · obtain ⟨rfl, rfl⟩ := List.cons.inj hbs
    have hle := operandBytes_le op
    rw [instrLength, if_neg hcb, List.append_nil, List.length_take, List.length_cons, List.length_singleton]
    omega

namespace Machine

theorem add_one_add_ofNat (pc : Word) (n : Nat) : pc + 1 + BitVec.ofNat 16 n = pc + BitVec.ofNat 16 (n + 1) := by
  rw [BitVec.ofNat_add, BitVec.add_assoc, BitVec.add_comm 1]
  rfl

/-- The code of a well-formed instruction at PC is fetched as that instruction, with PC past it. -/
theorem fetchDecode_of_encode {s : State} {i : Instr} (hw : i.wellFormed = true) (hb : BytesAt s s.pc (encode i)) :
    s.fetchDecode = .instr i { s with pc := s.pc + BitVec.ofNat 16 (encode i).length } := by
  have hd := decode_encode_append hw []
  rw [List.append_nil] at hd
  cases he : encode i with
  | nil => rw [he] at hd; cases hd
  | cons op bs =>
    rw [he] at hd hb
    rw [fetchDecode_of_bytesAt hb (instrLength_of_decode hd) hd, add_one_add_ofNat, List.length_cons]

/-- Settles O5: the bytes at PC are fetched as `i`; a fault ends the step before steps 6 and 7. -/
theorem stepRunsDecodedInstruction : Obligations.StepRunsDecodedInstruction := by
  intro s i hs hw hb u t he
  have hf := fetchDecode_of_encode hw hb
  refine ⟨step_of_exec hs hf he, fun ht => ?faulted⟩
  case faulted =>
    obtain ⟨r, hr⟩ := Option.ne_none_iff_exists'.1 ht
    rw [step_of_fetchDecode hs hf, finishInstr_of_fault he hr]

/-! ### Fetches that fault (R273) -/

/-- A fetch faults at the first byte that cannot be read, with PC on it. -/
theorem fetchBytes_of_fault {s : State} {bs : List Byte} {k : Nat} {r : Fault} (hb : BytesAt s s.pc bs)
    (hk : bs.length < k) (hr : s.memRead (s.pc + BitVec.ofNat 16 bs.length) = .error r) :
    fetchBytes k s = .raised { s with pc := s.pc + BitVec.ofNat 16 bs.length, fault := some r } := by
  obtain ⟨j, rfl⟩ := Nat.exists_eq_add_one_of_ne_zero (Nat.ne_zero_of_lt hk)
  induction bs generalizing s j with
  | nil =>
    simp only [List.length_nil, BitVec.add_zero] at hr ⊢
    simp only [fetchBytes, hr]
    rfl
  | cons v rest ih =>
    obtain ⟨hv, hrest⟩ := hb
    rw [List.length_cons, ← add_one_add_ofNat] at hr ⊢
    obtain ⟨q, rfl⟩ := Nat.exists_eq_add_one_of_ne_zero (Nat.ne_zero_of_lt (Nat.lt_of_succ_lt_succ hk))
    have hnext := ih (s := { s with pc := s.pc + 1 }) (bytesAt_setPc hrest) ((State.memRead_setPc s _ _).trans hr) q
      (Nat.lt_of_succ_lt_succ hk)
    rw [fetchBytes]
    simp only [hv, hnext]

theorem fetchDecode_of_fault_opcode {s : State} {r : Fault} (hr : s.memRead s.pc = .error r) :
    s.fetchDecode = .raised { s with fault := some r } := by
  simp only [State.fetchDecode, fetchBytes, hr]
  rfl

/-- After the first byte the fetch faults at the first operand byte that cannot be read. -/
theorem fetchDecode_of_fault_operand {s : State} {op : Byte} {bs : List Byte} {r : Fault}
    (hop : s.memRead s.pc = .ok op) (hb : BytesAt s (s.pc + 1) bs) (hk : bs.length + 1 < instrLength op)
    (hr : s.memRead (s.pc + 1 + BitVec.ofNat 16 bs.length) = .error r) :
    s.fetchDecode = .raised { s with pc := s.pc + 1 + BitVec.ofNat 16 bs.length, fault := some r } := by
  have hrest := fetchBytes_of_fault (s := { s with pc := s.pc + 1 }) (k := instrLength op - 1) (bytesAt_setPc hb)
    (by omega) ((State.memRead_setPc s _ _).trans hr)
  simp only [State.fetchDecode, fetchBytes_one hop, hrest]

theorem step_of_fetchDecode_raised {s t : State} (hs : s.Fetches) (hf : s.fetchDecode = .raised t) :
    step s = .next t := by
  have ⟨hrun, hhalt, _, hint⟩ := hs
  rw [step_eq_runStep hrun, beginStep_of_fetches hs]
  simp only [State.runStep, hint, hhalt, hf, Bool.false_eq_true, if_false]

/-- Settles O12: each clause is a fetch that faults after none, one or two bytes. -/
theorem fetchFaults : Obligations.FetchFaults := by
  refine fun s hs => ⟨fun r hr => ?opcode, fun op r hop hlen hr => ?second, fun op v r hop hlen hv hr => ?third⟩ <;>
    refine step_of_fetchDecode_raised hs ?_
  case opcode => exact fetchDecode_of_fault_opcode hr
  case second => simpa using fetchDecode_of_fault_operand (bs := []) hop trivial hlen (by simpa using hr)
  case third =>
    have h2 : s.pc + 1 + BitVec.ofNat 16 1 = s.pc + 2 := add_one_add_ofNat s.pc 1
    have hf := fetchDecode_of_fault_operand (bs := [v]) hop ⟨hv, trivial⟩ (by simp [hlen]) (by rwa [← h2] at hr)
    simpa only [List.length_singleton, h2] using hf

/-! ### Where there is no step (R257, R272) -/

/-- Settles O10: the two tests that stand before every step. -/
theorem faultedAndStoppedHaveNoStep : Obligations.FaultedAndStoppedHaveNoStep := by
  refine fun s => ⟨fun r hr => ?faulted, fun hf hs => ?stopped⟩
  case faulted => simp only [step, State.machineStep, hr]
  case stopped => simp only [step, State.machineStep, hf, hs, if_true]

/-! ### Steps 1 and 2 (R256, R275) -/

theorem State.handoff_fields (s : State) : s.handoff.inBios = false ∧ s.handoff.ly = 0 ∧ s.handoff.ie = 0 ∧
    ∀ a, a ≠ lyAddr → a ≠ ieAddr → s.handoff.cell a = s.cell a := by
  have hset : s.handoff = (({ s with inBios := false } : State).setCell lyAddr 0).setCell ieAddr 0 := rfl
  refine ⟨rfl, ?ly, ?ie, fun a hl hi => ?other⟩
  case ly => rw [hset, State.ly, State.cell_setCell_other _ (by decide), State.cell_setCell_same]
  case ie => rw [hset, State.ie, State.cell_setCell_same]
  case other => rw [hset, State.cell_setCell_other _ hi, State.cell_setCell_other _ hl]; rfl

/-- Step 1 has nothing left to do after the handoff. -/
theorem beginStep_handoff {s : State} (hb : s.inBios = true) (hp : s.pc = 0x0100) :
    s.beginStep = s.handoff.beginStep := by
  have hdue : s.handoffIfDue = s.handoff := if_pos ⟨hb, hp⟩
  have hdone : s.handoff.handoffIfDue = s.handoff := State.handoffIfDue_of_not (fun h => Bool.false_ne_true h.1)
  rw [State.beginStep, State.beginStep, hdue, hdone]

/-- Settles O8: the state is the one step 1 prepares, in which step 1 is done. -/
theorem biosHandoff : Obligations.BiosHandoff := by
  intro s hs hb hp
  obtain ⟨hi, hl, he, hc⟩ := s.handoff_fields
  have hrun : s.handoff.Running := hs
  exact ⟨s.handoff, by rw [step_eq_runStep hs, step_eq_runStep hrun, beginStep_handoff hb hp], hi, hl, he, hc, rfl⟩

/-- A bit of the five set in `IE & IF` wakes. -/
theorem State.wakes_of_mask {s : State} {m : Byte} (hm : 0x1F &&& m = m) (h : s.ie &&& s.iflag &&& m ≠ 0) :
    s.wakes = true := by
  refine bne_iff_ne.2 fun h0 => h ?_
  rw [← hm, ← BitVec.and_assoc, h0]
  exact BitVec.zero_and

/-- With a bit pending and no handoff due, steps 1 and 2 leave the machine awake. -/
theorem beginStep_of_wakes {s : State} (hb : ¬(s.inBios = true ∧ s.pc = 0x0100)) (hw : s.wakes = true) :
    s.beginStep = { s with halted := false } := by
  rw [State.beginStep, State.handoffIfDue_of_not hb]
  cases hh : s.halted with
  | true => exact State.wakeIfDue_of hh hw
  | false => rw [State.wakeIfDue_of_not (by simp [hh]), ← hh]

/-- So the step is that of the machine awake. -/
theorem step_eq_step_awake {s : State} (hs : s.Running) (hb : ¬(s.inBios = true ∧ s.pc = 0x0100))
    (hw : s.wakes = true) : step s = step { s with halted := false } := by
  have hawake : State.Running { s with halted := false } := hs
  rw [step_eq_runStep hs, step_eq_runStep hawake, beginStep_of_wakes hb hw,
    beginStep_of_wakes (s := { s with halted := false }) hb hw]

/-! ### The dispatch (R277, R281) -/

theorem State.dispatchable_iff (s : State) :
    s.dispatchable = true ↔ s.ime = true ∧ s.ie &&& s.iflag &&& 0x01 ≠ 0 ∧ s.inBios = false := by
  simp only [State.dispatchable, vblankMask, Bool.and_eq_true, bne_iff_ne, Bool.not_eq_true', and_assoc]

theorem State.dispatchable_eq_false_iff (s : State) :
    s.dispatchable = false ↔ ¬(s.ime = true ∧ s.ie &&& s.iflag &&& 0x01 ≠ 0 ∧ s.inBios = false) :=
  Bool.eq_false_iff.trans (not_congr s.dispatchable_iff)

theorem runStep_of_dispatchable {s : State} (hd : s.dispatchable = true) :
    s.runStep = .next (s.dispatch.tick s.params.dispatchCycles) := if_pos hd

theorem runStep_of_halted {s : State} (hd : s.dispatchable = false) (hh : s.halted = true) :
    s.runStep = .next (s.tick 1) := by
  simp only [State.runStep, hd, hh, Bool.false_eq_true, if_false, if_true]

theorem State.memWrite_setHalted (s : State) (a : Word) (v : Byte) (b : Bool) :
    ({ s with halted := b } : State).memWrite a v = { s.memWrite a v with halted := b } :=
  (State.memWrite_withMemoryOf (s := s) (t := { s with halted := b }) rfl a v).trans (by
    rw [State.withMemoryOf, State.memWrite_eq])

/-- The dispatch does not look at `halted`. -/
theorem State.dispatch_setHalted (s : State) (b : Bool) :
    ({ s with halted := b } : State).dispatch = { s.dispatch with halted := b } := by
  have hset : ∀ n v, ({ s with halted := b } : State).setCell n v = { s.setCell n v with halted := b } :=
    fun _ _ => rfl
  simp only [State.dispatch_eq, hset, State.memWrite_setHalted]
  rfl

/-- A cell written is seen at its own address alone. -/
theorem State.memRead_setCell_other (s : State) {n : Nat} {a : Word} (h : a.toNat ≠ n) (v : Byte) :
    (s.setCell n v).memRead a = s.memRead a := by
  simp only [State.memRead, State.cell_setCell_other s h]
  rfl

/-- What reads after a dispatch onto RAM. -/
theorem State.dispatch_reads (s : State) (h1 : ramAddr (s.sp - 1).toNat = true)
    (h2 : ramAddr (s.sp - 2).toNat = true) :
    s.dispatch.memRead (s.sp - 1) = .ok (hiByte s.pc) ∧ s.dispatch.memRead (s.sp - 2) = .ok (loByte s.pc) ∧
      ∀ a, a ≠ s.sp - 1 → a ≠ s.sp - 2 → a.toNat ≠ ifAddr → s.dispatch.memRead a = s.memRead a := by
  obtain ⟨hhi, hlo, hother⟩ := s.acknowledged.push16_reads s.pc h1 h2
  rw [State.dispatch_eq_push16]
  simp only [State.memRead_setPc]
  exact ⟨hhi, hlo, fun a ha1 ha2 hif => (hother a ha1 ha2).trans (s.memRead_setCell_other hif _)⟩

/-- The request stays cleared when the push does not write IF. -/
theorem State.dispatch_iflag (s : State) (h1 : (s.sp - 1).toNat ≠ ifAddr) (h2 : (s.sp - 2).toNat ≠ ifAddr) :
    s.dispatch.iflag = s.iflag &&& 0xFE := by
  rw [State.dispatch_eq]
  exact (State.cell_memWrite_other _ _ _ h2).trans
    ((State.cell_memWrite_other _ _ _ h1).trans (s.cell_setCell_same ifAddr _))

theorem toNat_ne_ifAddr {a : Word} (h : a ≠ 0xFF0F) : a.toNat ≠ ifAddr := fun e => h (BitVec.eq_of_toNat_eq e)

/-- Settles O6: the pending request wakes the machine if need be, and the woken machine dispatches. -/
theorem vblankDispatch : Obligations.VblankDispatch := by
  intro s hs hime hpending hb
  let w : State := { s with halted := false }
  have hbegin : s.beginStep = w := beginStep_of_wakes (by simp [hb]) (State.wakes_of_mask rfl hpending)
  have hd : w.dispatchable = true := w.dispatchable_iff.2 ⟨hime, hpending, hb⟩
  refine ⟨w.dispatch, ?step, ?writes, fun h1 h2 => ?reads⟩
  case step => rw [step_eq_runStep hs, hbegin, runStep_of_dispatchable hd]
  case writes => rw [State.dispatch_setHalted, State.dispatch_eq]; rfl
  case reads =>
    obtain ⟨hhi, hlo, hother⟩ := w.dispatch_reads h1 h2
    exact ⟨hhi, hlo, fun n1 n2 => w.dispatch_iflag (toNat_ne_ifAddr n1) (toNat_ne_ifAddr n2),
      fun a n1 n2 n3 => hother a n1 n2 (toNat_ne_ifAddr n3)⟩

/-! ### Steps without a dispatch (R256, R282) -/

/-- Awake, not at the handoff and without a dispatch, the step runs the instruction at PC. -/
theorem step_of_encode {s t : State} {i : Instr} (hs : s.Fetches) (hw : i.wellFormed = true)
    (hb : BytesAt s s.pc (encode i)) (he : exec i { s with pc := s.pc + BitVec.ofNat 16 (encode i).length } = .next t)
    (ht : t.fault = none) :
    step s = .next (t.countEi.tick (cycles i { s with pc := s.pc + BitVec.ofNat 16 (encode i).length })) :=
  step_of_exec hs (fetchDecode_of_encode hw hb) he ht

/-- The same after waking, with a bit pending that is not dispatched. -/
theorem step_of_encode_awake {s t : State} {i : Instr} (hs : s.Running) (hb : ¬(s.inBios = true ∧ s.pc = 0x0100))
    (hwake : s.wakes = true) (hd : s.dispatchable = false) (hw : i.wellFormed = true)
    (hbytes : BytesAt s s.pc (encode i))
    (he : exec i { s with halted := false, pc := s.pc + BitVec.ofNat 16 (encode i).length } = .next t)
    (ht : t.fault = none) :
    step s =
      .next (t.countEi.tick (cycles i { s with halted := false, pc := s.pc + BitVec.ofNat 16 (encode i).length })) := by
  have hfetch : State.Fetches { s with halted := false } := ⟨hs, rfl, hb, hd⟩
  rw [step_eq_step_awake hs hb hwake]
  exact step_of_encode hfetch hw (bytesAt_congr (s := s) (fun _ => rfl) hbytes) he ht

theorem step_idle {s : State} (hs : s.Running) (hb : ¬(s.inBios = true ∧ s.pc = 0x0100)) (hh : s.halted = true)
    (hw : s.wakes = false) : step s = .next (s.tick 1) := by
  have hbegin : s.beginStep = s := by
    rw [State.beginStep, State.handoffIfDue_of_not hb, State.wakeIfDue_of_not (by simp [hw])]
  have hd : s.dispatchable = false := s.dispatchable_eq_false_iff.2 fun ⟨_, hp, _⟩ =>
    Bool.false_ne_true (hw.symm.trans (State.wakes_of_mask rfl hp))
  rw [step_eq_runStep hs, hbegin, runStep_of_halted hd hh]

/-- Settles O7: in each clause `dispatchable` is false, so the step runs the instruction at PC, or idles. -/
theorem noOtherDispatch : Obligations.NoOtherDispatch := by
  intro s hs
  refine ⟨fun i t hb h0 hp => ?other, fun i t hb hpc hh hw hbytes => ?bios, fun hh h0 hb => ?idle,
    fun hh hp hb hn => ?wake⟩
  case other =>
    have hd := s.dispatchable_eq_false_iff.2 fun ⟨_, hp, _⟩ => hp h0
    exact step_of_encode_awake hs (by simp [hb]) (State.wakes_of_mask rfl hp) hd
  case bios =>
    have hd := s.dispatchable_eq_false_iff.2 fun ⟨_, _, hi⟩ => Bool.false_ne_true (hi.symm.trans hb)
    exact step_of_encode ⟨hs, hh, fun h => hpc h.2, hd⟩ hw hbytes
  case idle => exact step_idle hs hb hh (bne_eq_false_iff_eq.2 h0)
  case wake =>
    have hwake := State.wakes_of_mask rfl hp
    have hd := s.dispatchable_eq_false_iff.2 hn
    exact ⟨step_eq_step_awake hs hb hwake, fun i t => step_of_encode_awake hs hb hwake hd⟩

/-! ### What a faulting step leaves (R273) -/

theorem State.beginStep_fault (s : State) : s.beginStep.fault = s.fault := by rw [State.beginStep_eq]
theorem State.beginStep_sp (s : State) : s.beginStep.sp = s.sp := by rw [State.beginStep_eq]
theorem State.beginStep_m (s : State) : s.beginStep.m = s.m := by rw [State.beginStep_eq]

theorem State.beginStep_params (s : State) : s.beginStep.params = s.params := by rw [State.beginStep_eq]

theorem State.dispatch_fault (s : State) : s.dispatch.fault = s.fault := by simp [State.dispatch_eq]
theorem State.dispatch_m (s : State) : s.dispatch.m = s.m := by simp [State.dispatch_eq]

/-- Settles O13: only a fetch or an instruction records a fault, and each writes nothing else but PC or SP. -/
theorem faultsArePrecise : Obligations.FaultsArePrecise := by
  intro s t r h hr
  have hb : s.beginStep.fault = none := s.beginStep_fault.trans (step_running h).1
  rw [← s.beginStep_pc, ← s.beginStep_sp]
  cases step_cases h with
  | dispatch _ ht => rw [ht, State.tick_fault, State.dispatch_fault, hb] at hr; cases hr
  | idle _ _ ht => rw [ht, State.tick_fault, hb] at hr; cases hr
  | fetchFault _ _ hf =>
    obtain ⟨j, hj, q, _, rfl⟩ := fetchDecode_raised hf
    cases hr
    exact ⟨j, by omega, rfl, .inl rfl⟩
  | instr i u v _ _ hf he ht =>
    obtain ⟨bs, rest, _, hlen, _, _, rfl⟩ := fetchDecode_instr hf
    cases hv : v.fault with
    | none => rw [ht, State.endStep_none hv, State.tick_fault, State.countEi_eq, hv] at hr; cases hr
    | some q =>
      rw [State.endStep_some hv] at ht
      subst ht
      obtain rfl := Option.some.inj (hv.symm.trans hr)
      obtain rfl | ⟨rfl, hread⟩ := exec_fault he hb hv
      · exact ⟨_, hlen, rfl, .inl rfl⟩
      · exact ⟨_, hlen, rfl, .inr ⟨rfl, (State.memRead_setPc _ _ _).symm.trans hread⟩⟩

/-! ### Time (R270, R285) -/

/-- `t` with the fields of `s` that a tick can change. -/
def State.withTimeOf (t s : State) : State :=
  { t with
    m := s.m
    mem := s.mem
    lyCounter := s.lyCounter
    divCounter := s.divCounter
    timaCounter := s.timaCounter
    vblankEvent := s.vblankEvent }

/-- A tick changes its own fields alone: every update a tick makes is one of them. -/
theorem tick_withTimeOf (s : State) (n : Nat) : s.tick n = s.withTimeOf (s.tick n) := by
  refine tick_keeps (P := fun u => u = s.withTimeOf u) ?_ s n rfl
  exact
    { cell := fun _ a v _ h => congrArg (State.setCell · a v) h
      ly := fun _ v _ h => congrArg (State.setCell · lyAddr v) h
      event := fun _ h => congrArg (fun w : State => { w with vblankEvent := true }) h
      m := fun _ k h => congrArg (fun w : State => { w with m := k }) h
      lyCounter := fun u k h => congrArg (fun w : State => { w with lyCounter := k % u.params.lyPeriod }) h
      divCounter := fun u k h => congrArg (fun w : State => { w with divCounter := k % u.params.divPeriod }) h
      timaCounter := fun u k h => congrArg (fun w : State => { w with timaCounter := k % u.timaPeriod }) h }

/-- Of the cells a tick writes LY, IF, DIV and TIMA. -/
theorem tick_cell (s : State) (n : Nat) {a : Nat} (hl : a ≠ lyAddr) (hi : a ≠ ifAddr) (hd : a ≠ divAddr)
    (ht : a ≠ timaAddr) : (s.tick n).cell a = s.cell a := by
  refine tick_keeps (P := fun u => u.cell a = s.cell a) ?_ s n rfl
  exact
    { cell := fun u b v hb h => by
        have hne : a ≠ b := by rintro rfl; exact hb.elim hi (·.elim hd ht)
        exact (u.cell_setCell_other hne v).trans h
      ly := fun u v _ h => (u.cell_setCell_other hl v).trans h
      event := fun _ h => h
      m := fun _ _ h => h
      lyCounter := fun _ _ h => h
      divCounter := fun _ _ h => h
      timaCounter := fun _ _ h => h }

theorem exec_m {i : Instr} {s t : State} (h : exec i s = .next t) : t.m = s.m :=
  exec_storage State.m h SameStorage.m fun u a v _ => u.memWrite_m a v

theorem State.countEi_m (s : State) : s.countEi.m = s.m := by rw [State.countEi_eq]

/-- Settles O16: no part of a step but its tick writes `m`. -/
theorem stepsAddTheirCost : Obligations.StepsAddTheirCost := by
  refine ⟨fun s n => ⟨s.tick_m n, fun a hl hi hd ht => tick_cell s n hl hi hd ht, tick_withTimeOf s n⟩,
    fun s t h => ⟨fun hf => ?fault, fun hd => ?dispatch, fun hd hh => ?idle, fun i hs hw hb hf => ?instr⟩⟩
  case fault =>
    obtain ⟨r, hr⟩ := Option.ne_none_iff_exists'.1 hf
    obtain ⟨k, _, ht, _⟩ := faultsArePrecise s t r h hr
    rw [ht]
    exact s.beginStep_m
  case dispatch =>
    rw [step_eq_runStep (step_running h), runStep_of_dispatchable hd] at h
    cases h
    rw [State.tick_m, State.dispatch_m, State.beginStep_m, State.beginStep_params]
  case idle =>
    rw [step_eq_runStep (step_running h), runStep_of_halted hd hh] at h
    cases h
    rw [State.tick_m, State.beginStep_m]
  case instr =>
    obtain ⟨j, u, v, hfetch, he, _, rfl⟩ := step_fetches_cases hs h hf
    rw [fetchDecode_of_encode hw hb] at hfetch
    cases hfetch
    rw [State.tick_m, State.countEi_m, exec_m he]

/-! ### The scanline counter (R286) -/

theorem State.lyIncrement_vblank {s : State} (h : (s.ly.toNat + 1) % 154 = 144) :
    s.lyIncrement =
      { (s.setCell lyAddr 144).setCell ifAddr (s.iflag ||| 0x01) with vblankEvent := true } := by
  have hif : ∀ v, (s.setCell lyAddr v).iflag = s.iflag := s.cell_setCell_other (by decide)
  have hpass : s.lyIncrement =
      { (s.setCell lyAddr (BitVec.ofNat 8 ((s.ly.toNat + 1) % 154))).setCell ifAddr
          ((s.setCell lyAddr (BitVec.ofNat 8 ((s.ly.toNat + 1) % 154))).iflag ||| 0x01) with
        vblankEvent := true } := if_pos h
  rw [hpass, hif, h]
  rfl

theorem State.lyIncrement_other {s : State} (h : (s.ly.toNat + 1) % 154 ≠ 144) :
    s.lyIncrement = s.setCell lyAddr (BitVec.ofNat 8 ((s.ly.toNat + 1) % 154)) := if_neg h

/-- One pass of the scanline loop. -/
theorem State.lyIncrement_spec (s : State) :
    s.lyIncrement.ly.toNat = (s.ly.toNat + 1) % 154 ∧
    s.lyIncrement.iflag = (if s.lyIncrement.ly = 144 then s.iflag ||| 0x01 else s.iflag) ∧
    s.lyIncrement.vblankEvent = (s.vblankEvent || decide (s.lyIncrement.ly = 144)) ∧
    (∀ a, a ≠ lyAddr → a ≠ ifAddr → s.lyIncrement.cell a = s.cell a) ∧
    s.lyIncrement = { s with mem := s.lyIncrement.mem, vblankEvent := s.lyIncrement.vblankEvent } := by
  by_cases h : (s.ly.toNat + 1) % 154 = 144
  · have hly : s.lyIncrement.ly = 144 := by
      rw [State.lyIncrement_vblank h]
      exact (State.cell_setCell_other _ (by decide) _).trans (s.cell_setCell_same lyAddr 144)
    rw [hly, h, if_pos rfl, decide_eq_true rfl, Bool.or_true, State.lyIncrement_vblank h]
    exact ⟨rfl, State.cell_setCell_same _ _ _, rfl,
      fun a hl hi => (State.cell_setCell_other _ hi _).trans (s.cell_setCell_other hl _), rfl⟩
  · have hly : s.lyIncrement.ly.toNat = (s.ly.toNat + 1) % 154 := by
      rw [State.lyIncrement_other h, State.ly, State.cell_setCell_same, BitVec.toNat_ofNat]
      omega
    have hne : s.lyIncrement.ly ≠ 144 := fun e => h (by rw [← hly, e]; rfl)
    rw [hly, if_neg hne, decide_eq_false hne, Bool.or_false, State.lyIncrement_other h]
    exact ⟨rfl, s.cell_setCell_other (by decide) _, rfl, fun a hl _ => s.cell_setCell_other hl _, rfl⟩

theorem State.lyAdvance_below {s : State} {n : Nat} (h : s.lyCounter + n < s.params.lyPeriod) :
    s.lyAdvance n = { s with lyCounter := s.lyCounter + n } := by
  simp only [State.lyAdvance, Nat.div_eq_of_lt h, Nat.mod_eq_of_lt h, repeatState]

theorem State.lyAdvance_pass {s : State} {n : Nat} (hp : 0 < s.params.lyPeriod)
    (h : s.params.lyPeriod ≤ s.lyCounter + n) :
    s.lyAdvance n =
      ({ s.lyIncrement with lyCounter := s.lyCounter + n - s.params.lyPeriod } : State).lyAdvance 0 := by
  obtain ⟨hq, hr⟩ := passes_succ hp h
  simp only [State.lyAdvance, hq, hr, repeatState, State.lyIncrement_lyCounterWith, State.lyIncrement_params,
    Nat.add_zero]

/-- Settles O54: the state after the pass is `lyIncrement` with the period taken off its sub-counter. -/
theorem scanlineCounter : Obligations.ScanlineCounter := by
  refine fun s n hp => ⟨State.lyAdvance_below, fun h => ?pass⟩
  obtain ⟨hly, hif, hev, hcell, hframe⟩ := s.lyIncrement_spec
  exact ⟨{ s.lyIncrement with lyCounter := s.lyCounter + n - s.params.lyPeriod }, hly, hif, hev, hcell,
    congrArg (fun w : State => { w with lyCounter := s.lyCounter + n - s.params.lyPeriod }) hframe, rfl,
    State.lyAdvance_pass hp h⟩

/-! ### The divider (R287) -/

theorem State.divAdvance_below {s : State} {n : Nat} (h : s.divCounter + n < s.params.divPeriod) :
    s.divAdvance n = { s with divCounter := s.divCounter + n } := by
  simp only [State.divAdvance, Nat.div_eq_of_lt h, Nat.mod_eq_of_lt h, repeatState]

theorem State.divAdvance_pass {s : State} {n : Nat} (hp : 0 < s.params.divPeriod)
    (h : s.params.divPeriod ≤ s.divCounter + n) :
    s.divAdvance n =
      ({ s.divIncrement with divCounter := s.divCounter + n - s.params.divPeriod } : State).divAdvance 0 := by
  obtain ⟨hq, hr⟩ := passes_succ hp h
  simp only [State.divAdvance, hq, hr, repeatState, State.divIncrement_params, Nat.add_zero]
  rfl

/-- Settles O55: the state after the pass is `divIncrement` with the period taken off its sub-counter. -/
theorem dividerCounter : Obligations.DividerCounter := by
  refine fun s n hp => ⟨State.divAdvance_below, fun h =>
    ⟨{ s.divIncrement with divCounter := s.divCounter + n - s.params.divPeriod }, ?div,
      fun a ha => s.cell_setCell_other ha _, rfl, rfl, State.divAdvance_pass hp h⟩⟩
  case div =>
    refine (congrArg BitVec.toNat (s.cell_setCell_same divAddr _)).trans ?_
    rw [BitVec.toNat_add]
    rfl

/-! ### The timer (R288) -/

theorem State.timaIncrement_overflow {s : State} (h : s.tima = 0xFF) :
    s.timaIncrement = (s.setCell timaAddr s.tma).setCell ifAddr (s.iflag ||| 0x04) := by
  have hif : (s.setCell timaAddr s.tma).iflag = s.iflag := s.cell_setCell_other (by decide) s.tma
  rw [State.timaIncrement, if_pos h, ← hif]
  rfl

theorem State.timaIncrement_other {s : State} (h : s.tima ≠ 0xFF) :
    s.timaIncrement = s.setCell timaAddr (s.tima + 1) := if_neg h

/-- One pass of the timer loop. -/
theorem State.timaIncrement_spec (s : State) :
    (s.tima = 0xFF → s.timaIncrement.tima = s.tma ∧ s.timaIncrement.iflag = s.iflag ||| 0x04) ∧
    (s.tima ≠ 0xFF → s.timaIncrement.tima.toNat = s.tima.toNat + 1 ∧ s.timaIncrement.iflag = s.iflag) ∧
    (∀ a, a ≠ timaAddr → a ≠ ifAddr → s.timaIncrement.cell a = s.cell a) ∧
    s.timaIncrement = { s with mem := s.timaIncrement.mem } := by
  by_cases h : s.tima = 0xFF
  · rw [State.timaIncrement_overflow h]
    exact ⟨fun _ => ⟨(State.cell_setCell_other _ (by decide) _).trans (s.cell_setCell_same timaAddr _),
        State.cell_setCell_same _ _ _⟩, fun hne => absurd h hne,
      fun a ht hi => (State.cell_setCell_other _ hi _).trans (s.cell_setCell_other ht _), rfl⟩
  · rw [State.timaIncrement_other h]
    refine ⟨fun he => absurd he h, fun _ => ⟨?_, s.cell_setCell_other (by decide) _⟩,
      fun a ht _ => s.cell_setCell_other ht _, rfl⟩
    refine (congrArg BitVec.toNat (s.cell_setCell_same timaAddr _)).trans ?_
    have hlt := s.tima.isLt
    have hne : s.tima.toNat ≠ 255 := fun e => h (BitVec.eq_of_toNat_eq e)
    rw [BitVec.toNat_add]
    exact Nat.mod_eq_of_lt (by simp; omega)

theorem State.timaPeriod_eq (s : State) :
    (s.tac.toNat % 4 = 0 → s.timaPeriod = s.params.timaPeriod.p0) ∧
    (s.tac.toNat % 4 = 1 → s.timaPeriod = s.params.timaPeriod.p1) ∧
    (s.tac.toNat % 4 = 2 → s.timaPeriod = s.params.timaPeriod.p2) ∧
    (s.tac.toNat % 4 = 3 → s.timaPeriod = s.params.timaPeriod.p3) := by
  refine ⟨fun h => ?_, fun h => ?_, fun h => ?_, fun h => ?_⟩ <;> simp only [State.timaPeriod, h]

/-- A pass of the timer loop leaves its own period. -/
theorem State.timaIncrement_timaPeriod (s : State) :
    s.timaIncrement.tac = s.tac ∧ s.timaIncrement.timaPeriod = s.timaPeriod := by
  obtain ⟨-, -, hcell, -⟩ := s.timaIncrement_spec
  have htac : s.timaIncrement.tac = s.tac := hcell tacAddr (by decide) (by decide)
  exact ⟨htac, by rw [State.timaPeriod, htac, State.timaIncrement_params]; rfl⟩

theorem State.timaAdvance_disabled {s : State} (h : s.tac.getLsbD 2 = false) (n : Nat) : s.timaAdvance n = s :=
  if_pos h

theorem State.timaAdvance_enabled {s : State} (h : s.tac.getLsbD 2 = true) (n : Nat) :
    s.timaAdvance n = repeatState State.timaIncrement ((s.timaCounter + n) / s.timaPeriod)
      { s with timaCounter := (s.timaCounter + n) % s.timaPeriod } := if_neg (by simp [h])

theorem State.timaAdvance_below {s : State} {n : Nat} (he : s.tac.getLsbD 2 = true)
    (h : s.timaCounter + n < s.timaPeriod) :
    s.timaAdvance n = { s with timaCounter := s.timaCounter + n } := by
  rw [State.timaAdvance_enabled he, Nat.div_eq_of_lt h, Nat.mod_eq_of_lt h, repeatState]

theorem State.timaAdvance_pass {s : State} {n : Nat} (he : s.tac.getLsbD 2 = true) (hp : 0 < s.timaPeriod)
    (h : s.timaPeriod ≤ s.timaCounter + n) :
    s.timaAdvance n =
      ({ s.timaIncrement with timaCounter := s.timaCounter + n - s.timaPeriod } : State).timaAdvance 0 := by
  obtain ⟨hq, hr⟩ := passes_succ hp h
  obtain ⟨htac, hperiod⟩ := s.timaIncrement_timaPeriod
  let u : State := { s.timaIncrement with timaCounter := s.timaCounter + n - s.timaPeriod }
  have hu : u.tac = s.tac := htac
  have hup : u.timaPeriod = s.timaPeriod := hperiod
  change _ = u.timaAdvance 0
  rw [State.timaAdvance_enabled he, State.timaAdvance_enabled (by rw [hu, he]), hq, hr, hup, repeatState,
    State.timaIncrement_timaCounterWith, Nat.add_zero]

/-- Settles O56: the state after the pass is `timaIncrement` with the period taken off its sub-counter; the period
stays, because a pass leaves TAC. -/
theorem timerCounter : Obligations.TimerCounter := by
  intro s n
  obtain ⟨h0, h1, h2, h3⟩ := s.timaPeriod_eq
  obtain ⟨hover, hother, hcell, hframe⟩ := s.timaIncrement_spec
  refine ⟨fun h => State.timaAdvance_disabled h n, h0, h1, h2, h3,
    fun he hp => ⟨State.timaAdvance_below he, fun h => ?pass⟩⟩
  exact ⟨{ s.timaIncrement with timaCounter := s.timaCounter + n - s.timaPeriod }, hover, hother, hcell,
    congrArg (fun w : State => { w with timaCounter := s.timaCounter + n - s.timaPeriod }) hframe, rfl,
    State.timaAdvance_pass he hp h⟩

/-! ### The host (R295 to R297) -/

/-- The marks that the host clears are in no invariant. -/
theorem invariants_setMarks (s : State) (vram lcdc event : Bool) :
    let t : State := { s with vramDirty := vram, lcdcDirty := lcdc, vblankEvent := event }
    (s.MemInv → t.MemInv) ∧ (s.FlagInv → t.FlagInv) ∧ (s.TimeInv → t.TimeInv) ∧ (s.BankInv → t.BankInv) ∧
      (s.EiInv → t.EiInv) :=
  ⟨fun h => memInv_congr h rfl rfl rfl, id, fun h => timeInv_congr h rfl rfl rfl rfl rfl, id, id⟩

/-- Settles O22: a keypad move writes the cell P1, a reset gives a reset state, the others write marks alone. -/
theorem hostMovesKeepInvariants : Obligations.HostMovesKeepInvariants := by
  intro s t move h hp
  cases move with
  | keypad b =>
    cases h
    refine ⟨fun hm => ?mem, id, fun ht => ?time, id, id⟩
    case mem => exact memInv_congr (memInv_setCell (a := p1Addr) (v := b) hm (by decide) (by decide)) rfl rfl rfl
    case time => exact timeInv_congr (timeInv_setCell (a := p1Addr) ht (by decide) b) rfl rfl rfl rfl rfl
  | observe => cases h; exact ⟨id, id, id, id, id⟩
  | clearVramDirty => cases h; exact invariants_setMarks s false s.lcdcDirty s.vblankEvent
  | clearLcdcDirty => cases h; exact invariants_setMarks s s.vramDirty false s.vblankEvent
  | consumeVblank =>
    obtain ⟨_, h⟩ := Option.ite_none_right_eq_some.1 h
    cases h
    exact invariants_setMarks s s.vramDirty s.lcdcDirty false
  | reset p =>
    cases h
    have hwf := hp p rfl
    exact ⟨fun _ => memInv_resetOf hwf, fun _ => flagInv_resetOf p, fun _ => timeInv_resetOf hwf,
      fun _ => bankInv_resetOf p, fun _ => ⟨Nat.zero_le 2, fun _ => rfl⟩⟩

/-- Settles O57: each move is its own update of the state. -/
theorem hostMoves : Obligations.HostMoves := fun s =>
  ⟨fun b => ⟨_, rfl, s.cell_setCell_same p1Addr b, rfl, fun a ha => s.cell_setCell_other ha b, rfl⟩,
    rfl, rfl, rfl, fun h => if_pos h, fun h => if_neg (by simp [h]), fun _ => rfl⟩

/-- Settles O58: the tests of one round of the loop, in their order. -/
theorem frameLoop : Obligations.FrameLoop := by
  intro k stopPc v s
  refine ⟨fun r hf => ?faulted, fun hf hs => ?stopped, fun hs hp => ?ended, fun t hs hp ht => ?step⟩
  case faulted => simp only [runFrame, hf]
  case stopped => simp only [runFrame, hf, hs, if_true]
  case ended =>
    obtain ⟨hf, hs⟩ := hs
    simp only [runFrame, hf, hs, hp, Bool.false_eq_true, if_false, if_true]
  case step =>
    obtain ⟨hf, hs⟩ := hs
    have hrun : runFrame (k + 1) stopPc v s = if t.vblankEvent = true then
        { outcome := .frameDone, loop := v.requestPaint, state := { t with vblankEvent := false } }
      else runFrame k stopPc v t := by
      rw [runFrame]
      simp only [hf, hs, hp, ht, Bool.false_eq_true, if_false]
    rw [hrun]
    exact ⟨fun he => if_pos he, fun he => if_neg (by simp [he])⟩

end Machine
end Sys2Proof

/-! PROOFS of the statements about the encoding as a whole (spec/30_encoding.md): encoder and decoder undo each other.
The case splits behind them are `decode_encode_append`, over the instructions, and `decode_cases`, over the bytes. -/

namespace Sys2Proof
open Sys2Proof.Machine

/-- Settles O1: each instruction's row decodes to it, its 16-bit operand joined again from its two bytes. -/
theorem decodeInvertsEncode : Obligations.DecodeInvertsEncode :=
  fun _ rest hwf => decode_encode_append hwf rest

/-- Settles O2: a decoded instruction is a row of one of the two opcode maps, which is well-formed and encodes to the
bytes it was read from. -/
theorem encodeInvertsDecode : Obligations.EncodeInvertsDecode :=
  fun _ _ _ hdec => ⟨wellFormed_of_decode hdec, encode_append_of_decode hdec⟩

end Sys2Proof
